-- ==== Sys2Proof/Word.lean ====
section
/-! DEFINITION. The word types of the machine (10_state.md R30, 20_memory.md R80, R91, 00_scope.md R8, R9).
Addition and subtraction on them wrap, as R9 asks of every register and address. -/

namespace Sys2Proof

/-- One byte: an 8-bit register, a memory or I/O unit, an operand byte. -/
abbrev Byte := BitVec 8

/-- A 16-bit register, register pair or logical address. -/
abbrev Word := BitVec 16

/-- A 20-bit physical address (20_memory.md R91). -/
abbrev PhysAddr := BitVec 20

end Sys2Proof
end

