-- ==== Sys2Proof/Machine/Bits.lean ====
section
/-! DEFINITION. Bytes and words: halves, concatenation and extension (00_scope.md R8-R10, 20_memory.md R81). -/

namespace Sys2Proof.Machine

/-- `{hi, lo}`. -/
def mkWord (hi lo : Byte) : Word := hi ++ lo

/-- Bits 15..8. -/
def hiByte (w : Word) : Byte := w.extractLsb' 8 8

/-- Bits 7..0. -/
def loByte (w : Word) : Byte := w.extractLsb' 0 8

/-- `sext_16` of R9. -/
def sext16 (b : Byte) : Word := b.signExtend 16

/-- `zext_16` of R9. -/
def zext16 (b : Byte) : Word := b.setWidth 16

/-- `{p[3:0], a}`: a 20-bit address from the low half of a byte and a 16-bit address (20_memory.md R92). -/
def physOf (p : Byte) (a : Word) : PhysAddr := p.extractLsb' 0 4 ++ a

end Sys2Proof.Machine
end

