-- ==== Sys2Proof/Machine/Names.lean ====
section
/-! DEFINITION. The names that operand fields select (00_scope.md R18): registers, pairs, conditions, restart vectors,
the operations of the arithmetic and rotate groups, and the field value of each. -/

namespace Sys2Proof.Machine

/-- The byte registers of field r (10_state.md R31); 110 selects none. -/
inductive Reg8
  | b | c | d | e | h | l | a
deriving DecidableEq, Repr

/-- The three pairs that have an alternate (10_state.md R32, R33): field dd'. -/
inductive Pair
  | bc | de | hl
deriving DecidableEq, Repr

/-- The word registers of fields dd and ss. -/
inductive Dd
  | bc | de | hl | sp
deriving DecidableEq, Repr

/-- The index registers: page DD is IX, page FD is IY. -/
inductive Idx
  | ix | iy
deriving DecidableEq, Repr

/-- The word registers of fields xx and yy; `self` is the index register of the page. -/
inductive Xx
  | bc | de | self | sp
deriving DecidableEq, Repr

/-- The word registers of field zz. -/
inductive Zz
  | bc | de | hl | af
deriving DecidableEq, Repr

/-- The conditions of field f (R15, 47_control.md R500). -/
inductive Cond
  | nz | z | nc | c | lz | lo | p | m
deriving DecidableEq, Repr

/-- The conditions of field cc. -/
inductive Cc
  | nz | z | nc | c
deriving DecidableEq, Repr

/-- The restart vectors, by the number in the mnemonic (47_control.md R515). -/
inductive Rst
  | v10 | v18 | v20 | v28 | v38
deriving DecidableEq, Repr

/-- The eight operations of the 8-bit arithmetic group, in the order of their field (30_encoding.md R122). -/
inductive AluOp
  | add | adc | sub | sbc | and | xor | or | cp
deriving DecidableEq, Repr

/-- The seven rotates and shifts of the CB page (30_encoding.md R131). -/
inductive RotOp
  | rlc | rrc | rl | rr | sla | sra | srl
deriving DecidableEq, Repr

/-- A bit number of field b. -/
inductive BitNo
  | b0 | b1 | b2 | b3 | b4 | b5 | b6 | b7
deriving DecidableEq, Repr

/-- The field value of a byte register (10_state.md R31). -/
def Reg8.code : Reg8 → Nat
  | .b => 0 | .c => 1 | .d => 2 | .e => 3 | .h => 4 | .l => 5 | .a => 7

/-- The byte register a field value selects; `none` for 110. -/
def Reg8.ofField : Nat → Option Reg8
  | 0 => some .b | 1 => some .c | 2 => some .d | 3 => some .e | 4 => some .h | 5 => some .l | 7 => some .a
  | _ => none

/-- The field value of dd and ss. -/
def Dd.code : Dd → Nat
  | .bc => 0 | .de => 1 | .hl => 2 | .sp => 3

def Dd.ofField : Nat → Dd
  | 0 => .bc | 1 => .de | 2 => .hl | _ => .sp

/-- The field value of xx and yy. -/
def Xx.code : Xx → Nat
  | .bc => 0 | .de => 1 | .self => 2 | .sp => 3

def Xx.ofField : Nat → Xx
  | 0 => .bc | 1 => .de | 2 => .self | _ => .sp

/-- The field value of zz. -/
def Zz.code : Zz → Nat
  | .bc => 0 | .de => 1 | .hl => 2 | .af => 3

def Zz.ofField : Nat → Zz
  | 0 => .bc | 1 => .de | 2 => .hl | _ => .af

/-- The field value of f. -/
def Cond.code : Cond → Nat
  | .nz => 0 | .z => 1 | .nc => 2 | .c => 3 | .lz => 4 | .lo => 5 | .p => 6 | .m => 7

def Cond.ofField : Nat → Cond
  | 0 => .nz | 1 => .z | 2 => .nc | 3 => .c | 4 => .lz | 5 => .lo | 6 => .p | _ => .m

/-- The field value of cc. -/
def Cc.code : Cc → Nat
  | .nz => 0 | .z => 1 | .nc => 2 | .c => 3

def Cc.ofField : Nat → Cc
  | 0 => .nz | 1 => .z | 2 => .nc | _ => .c

/-- cc names the first four conditions of f (47_control.md R500). -/
def Cc.toCond : Cc → Cond
  | .nz => .nz | .z => .z | .nc => .nc | .c => .c

/-- The field value vvv of a restart (47_control.md R515). -/
def Rst.code : Rst → Nat
  | .v10 => 2 | .v18 => 3 | .v20 => 4 | .v28 => 5 | .v38 => 7

/-- The low byte of a restart's target (47_control.md R515, 60_exceptions.md R650). -/
def Rst.offset : Rst → Byte
  | .v10 => 0x20 | .v18 => 0x30 | .v20 => 0x40 | .v28 => 0x50 | .v38 => 0x70

/-- The field value ooo of an 8-bit operation (30_encoding.md R122). -/
def AluOp.code : AluOp → Nat
  | .add => 0 | .adc => 1 | .sub => 2 | .sbc => 3 | .and => 4 | .xor => 5 | .or => 6 | .cp => 7

def AluOp.ofField : Nat → AluOp
  | 0 => .add | 1 => .adc | 2 => .sub | 3 => .sbc | 4 => .and | 5 => .xor | 6 => .or | _ => .cp

/-- The field value of a rotate or shift (30_encoding.md R131). -/
def RotOp.code : RotOp → Nat
  | .rlc => 0 | .rrc => 1 | .rl => 2 | .rr => 3 | .sla => 4 | .sra => 5 | .srl => 7

/-- The rotate or shift a field value selects; 110 is not an instruction. -/
def RotOp.ofField : Nat → Option RotOp
  | 0 => some .rlc | 1 => some .rrc | 2 => some .rl | 3 => some .rr | 4 => some .sla | 5 => some .sra
  | 7 => some .srl | _ => none

def BitNo.toNat : BitNo → Nat
  | .b0 => 0 | .b1 => 1 | .b2 => 2 | .b3 => 3 | .b4 => 4 | .b5 => 5 | .b6 => 6 | .b7 => 7

def BitNo.ofField : Nat → BitNo
  | 0 => .b0 | 1 => .b1 | 2 => .b2 | 3 => .b3 | 4 => .b4 | 5 => .b5 | 6 => .b6 | _ => .b7

end Sys2Proof.Machine
end

