-- ==== Sys2Proof/Syntax.lean ====
section
/-! DEFINITION. The instructions: one constructor for each row of spec/opcode_table.json, named by the row's mnemonic
(`at` stands for the parentheses of a memory operand). Register, condition and bit selections are in the constructor's
name. Arguments, in this order: `d` a displacement byte, `mn` a 16-bit constant, `n` an 8-bit constant, `x` an XPC
value, `k` the byte `e - 2` of a relative jump (30_encoding.md R121-R126). `_ed` marks the second encodings ED 63 and
ED 6B (R132). Rows with operand bytes stand first. ALTD, IOI and IOE are rows of the table; the step runs them with the
instruction they modify (R140). -/

namespace Sys2Proof

inductive Instr
  -- 8-bit loads (40_ld8.md)
  | ld_B_n (n : Byte)
  | ld_C_n (n : Byte)
  | ld_D_n (n : Byte)
  | ld_E_n (n : Byte)
  | ld_H_n (n : Byte)
  | ld_L_n (n : Byte)
  | ld_A_n (n : Byte)
  | ld_B_atIXd (d : Byte)
  | ld_C_atIXd (d : Byte)
  | ld_D_atIXd (d : Byte)
  | ld_E_atIXd (d : Byte)
  | ld_H_atIXd (d : Byte)
  | ld_L_atIXd (d : Byte)
  | ld_A_atIXd (d : Byte)
  | ld_B_atIYd (d : Byte)
  | ld_C_atIYd (d : Byte)
  | ld_D_atIYd (d : Byte)
  | ld_E_atIYd (d : Byte)
  | ld_H_atIYd (d : Byte)
  | ld_L_atIYd (d : Byte)
  | ld_A_atIYd (d : Byte)
  | ld_atHL_n (n : Byte)
  | ld_atIXd_B (d : Byte)
  | ld_atIXd_C (d : Byte)
  | ld_atIXd_D (d : Byte)
  | ld_atIXd_E (d : Byte)
  | ld_atIXd_H (d : Byte)
  | ld_atIXd_L (d : Byte)
  | ld_atIXd_A (d : Byte)
  | ld_atIXd_n (d : Byte) (n : Byte)
  | ld_atIYd_B (d : Byte)
  | ld_atIYd_C (d : Byte)
  | ld_atIYd_D (d : Byte)
  | ld_atIYd_E (d : Byte)
  | ld_atIYd_H (d : Byte)
  | ld_atIYd_L (d : Byte)
  | ld_atIYd_A (d : Byte)
  | ld_atIYd_n (d : Byte) (n : Byte)
  | ld_A_atMn (mn : Word)
  | ld_atMn_A (mn : Word)
  -- 16-bit loads and LDP (41_ld16.md)
  | ld_BC_mn (mn : Word)
  | ld_DE_mn (mn : Word)
  | ld_HL_mn (mn : Word)
  | ld_SP_mn (mn : Word)
  | ld_IX_mn (mn : Word)
  | ld_IY_mn (mn : Word)
  | ld_HL_atMn (mn : Word)
  | ld_BC_atMn (mn : Word)
  | ld_DE_atMn (mn : Word)
  | ld_HL_atMn_ed (mn : Word)
  | ld_SP_atMn (mn : Word)
  | ld_IX_atMn (mn : Word)
  | ld_IY_atMn (mn : Word)
  | ld_atMn_HL (mn : Word)
  | ld_atMn_BC (mn : Word)
  | ld_atMn_DE (mn : Word)
  | ld_atMn_HL_ed (mn : Word)
  | ld_atMn_SP (mn : Word)
  | ld_atMn_IX (mn : Word)
  | ld_atMn_IY (mn : Word)
  | ld_HL_atHLd (d : Byte)
  | ld_HL_atIXd (d : Byte)
  | ld_HL_atIYd (d : Byte)
  | ld_atHLd_HL (d : Byte)
  | ld_atIXd_HL (d : Byte)
  | ld_atIYd_HL (d : Byte)
  | ld_HL_atSPn (n : Byte)
  | ld_IX_atSPn (n : Byte)
  | ld_IY_atSPn (n : Byte)
  | ld_atSPn_HL (n : Byte)
  | ld_atSPn_IX (n : Byte)
  | ld_atSPn_IY (n : Byte)
  | ldp_atMn_HL (mn : Word)
  | ldp_atMn_IX (mn : Word)
  | ldp_atMn_IY (mn : Word)
  | ldp_HL_atMn (mn : Word)
  | ldp_IX_atMn (mn : Word)
  | ldp_IY_atMn (mn : Word)
  -- 8-bit arithmetic and logic (43_alu8.md)
  | add_A_n (n : Byte)
  | add_A_atIXd (d : Byte)
  | add_A_atIYd (d : Byte)
  | adc_A_n (n : Byte)
  | adc_A_atIXd (d : Byte)
  | adc_A_atIYd (d : Byte)
  | sub_n (n : Byte)
  | sub_atIXd (d : Byte)
  | sub_atIYd (d : Byte)
  | sbc_A_n (n : Byte)
  | sbc_A_atIXd (d : Byte)
  | sbc_A_atIYd (d : Byte)
  | and_n (n : Byte)
  | and_atIXd (d : Byte)
  | and_atIYd (d : Byte)
  | or_n (n : Byte)
  | or_atIXd (d : Byte)
  | or_atIYd (d : Byte)
  | xor_n (n : Byte)
  | xor_atIXd (d : Byte)
  | xor_atIYd (d : Byte)
  | cp_n (n : Byte)
  | cp_atIXd (d : Byte)
  | cp_atIYd (d : Byte)
  | inc_atIXd (d : Byte)
  | inc_atIYd (d : Byte)
  | dec_atIXd (d : Byte)
  | dec_atIYd (d : Byte)
  -- 16-bit arithmetic and logic (44_alu16.md)
  | add_SP_d (d : Byte)
  -- Rotates and shifts (45_rotate_shift.md)
  | rlc_atIXd (d : Byte)
  | rlc_atIYd (d : Byte)
  | rl_atIXd (d : Byte)
  | rl_atIYd (d : Byte)
  | rrc_atIXd (d : Byte)
  | rrc_atIYd (d : Byte)
  | rr_atIXd (d : Byte)
  | rr_atIYd (d : Byte)
  | sla_atIXd (d : Byte)
  | sla_atIYd (d : Byte)
  | sra_atIXd (d : Byte)
  | sra_atIYd (d : Byte)
  | srl_atIXd (d : Byte)
  | srl_atIYd (d : Byte)
  -- Bit test, reset and set (46_bit.md)
  | bit_0_atIXd (d : Byte)
  | bit_1_atIXd (d : Byte)
  | bit_2_atIXd (d : Byte)
  | bit_3_atIXd (d : Byte)
  | bit_4_atIXd (d : Byte)
  | bit_5_atIXd (d : Byte)
  | bit_6_atIXd (d : Byte)
  | bit_7_atIXd (d : Byte)
  | bit_0_atIYd (d : Byte)
  | bit_1_atIYd (d : Byte)
  | bit_2_atIYd (d : Byte)
  | bit_3_atIYd (d : Byte)
  | bit_4_atIYd (d : Byte)
  | bit_5_atIYd (d : Byte)
  | bit_6_atIYd (d : Byte)
  | bit_7_atIYd (d : Byte)
  | res_0_atIXd (d : Byte)
  | res_1_atIXd (d : Byte)
  | res_2_atIXd (d : Byte)
  | res_3_atIXd (d : Byte)
  | res_4_atIXd (d : Byte)
  | res_5_atIXd (d : Byte)
  | res_6_atIXd (d : Byte)
  | res_7_atIXd (d : Byte)
  | res_0_atIYd (d : Byte)
  | res_1_atIYd (d : Byte)
  | res_2_atIYd (d : Byte)
  | res_3_atIYd (d : Byte)
  | res_4_atIYd (d : Byte)
  | res_5_atIYd (d : Byte)
  | res_6_atIYd (d : Byte)
  | res_7_atIYd (d : Byte)
  | set_0_atIXd (d : Byte)
  | set_1_atIXd (d : Byte)
  | set_2_atIXd (d : Byte)
  | set_3_atIXd (d : Byte)
  | set_4_atIXd (d : Byte)
  | set_5_atIXd (d : Byte)
  | set_6_atIXd (d : Byte)
  | set_7_atIXd (d : Byte)
  | set_0_atIYd (d : Byte)
  | set_1_atIYd (d : Byte)
  | set_2_atIYd (d : Byte)
  | set_3_atIYd (d : Byte)
  | set_4_atIYd (d : Byte)
  | set_5_atIYd (d : Byte)
  | set_6_atIYd (d : Byte)
  | set_7_atIYd (d : Byte)
  -- Jumps, calls and returns (47_control.md)
  | jp_mn (mn : Word)
  | jp_NZ_mn (mn : Word)
  | jp_Z_mn (mn : Word)
  | jp_NC_mn (mn : Word)
  | jp_C_mn (mn : Word)
  | jp_LZ_mn (mn : Word)
  | jp_LO_mn (mn : Word)
  | jp_P_mn (mn : Word)
  | jp_M_mn (mn : Word)
  | jr_e (k : Byte)
  | jr_NZ_e (k : Byte)
  | jr_Z_e (k : Byte)
  | jr_NC_e (k : Byte)
  | jr_C_e (k : Byte)
  | djnz_e (k : Byte)
  | call_mn (mn : Word)
  | lcall_x_mn (mn : Word) (x : Byte)
  | ljp_x_mn (mn : Word) (x : Byte)
  -- 8-bit loads (40_ld8.md), no operand byte
  | ld_B_B
  | ld_B_C
  | ld_B_D
  | ld_B_E
  | ld_B_H
  | ld_B_L
  | ld_B_A
  | ld_C_B
  | ld_C_C
  | ld_C_D
  | ld_C_E
  | ld_C_H
  | ld_C_L
  | ld_C_A
  | ld_D_B
  | ld_D_C
  | ld_D_D
  | ld_D_E
  | ld_D_H
  | ld_D_L
  | ld_D_A
  | ld_E_B
  | ld_E_C
  | ld_E_D
  | ld_E_E
  | ld_E_H
  | ld_E_L
  | ld_E_A
  | ld_H_B
  | ld_H_C
  | ld_H_D
  | ld_H_E
  | ld_H_H
  | ld_H_L
  | ld_H_A
  | ld_L_B
  | ld_L_C
  | ld_L_D
  | ld_L_E
  | ld_L_H
  | ld_L_L
  | ld_L_A
  | ld_A_B
  | ld_A_C
  | ld_A_D
  | ld_A_E
  | ld_A_H
  | ld_A_L
  | ld_A_A
  | ld_B_atHL
  | ld_C_atHL
  | ld_D_atHL
  | ld_E_atHL
  | ld_H_atHL
  | ld_L_atHL
  | ld_A_atHL
  | ld_atHL_B
  | ld_atHL_C
  | ld_atHL_D
  | ld_atHL_E
  | ld_atHL_H
  | ld_atHL_L
  | ld_atHL_A
  | ld_A_atBC
  | ld_A_atDE
  | ld_atBC_A
  | ld_atDE_A
  | ld_A_EIR
  | ld_A_IIR
  | ld_EIR_A
  | ld_IIR_A
  | ld_A_XPC
  | ld_XPC_A
  -- 16-bit loads and LDP (41_ld16.md), no operand byte
  | ld_HL_IX
  | ld_HL_IY
  | ld_IX_HL
  | ld_IY_HL
  | ld_SP_HL
  | ld_SP_IX
  | ld_SP_IY
  | ld_BC'_BC
  | ld_DE'_BC
  | ld_HL'_BC
  | ld_BC'_DE
  | ld_DE'_DE
  | ld_HL'_DE
  | ldp_atHL_HL
  | ldp_atIX_HL
  | ldp_atIY_HL
  | ldp_HL_atHL
  | ldp_HL_atIX
  | ldp_HL_atIY
  -- Stack and exchange (42_stack_exchange.md), no operand byte
  | push_BC
  | push_DE
  | push_HL
  | push_AF
  | push_IX
  | push_IY
  | push_IP
  | push_SU
  | pop_BC
  | pop_DE
  | pop_HL
  | pop_AF
  | pop_IX
  | pop_IY
  | pop_IP
  | pop_SU
  | ex_AF_AF'
  | exx
  | ex_DE_HL
  | ex_DE'_HL
  | ex_atSP_HL
  | ex_atSP_IX
  | ex_atSP_IY
  -- 8-bit arithmetic and logic (43_alu8.md), no operand byte
  | add_A_B
  | add_A_C
  | add_A_D
  | add_A_E
  | add_A_H
  | add_A_L
  | add_A_A
  | add_A_atHL
  | adc_A_B
  | adc_A_C
  | adc_A_D
  | adc_A_E
  | adc_A_H
  | adc_A_L
  | adc_A_A
  | adc_A_atHL
  | sub_B
  | sub_C
  | sub_D
  | sub_E
  | sub_H
  | sub_L
  | sub_A
  | sub_atHL
  | sbc_A_B
  | sbc_A_C
  | sbc_A_D
  | sbc_A_E
  | sbc_A_H
  | sbc_A_L
  | sbc_A_A
  | sbc_A_atHL
  | and_B
  | and_C
  | and_D
  | and_E
  | and_H
  | and_L
  | and_A
  | and_atHL
  | or_B
  | or_C
  | or_D
  | or_E
  | or_H
  | or_L
  | or_A
  | or_atHL
  | xor_B
  | xor_C
  | xor_D
  | xor_E
  | xor_H
  | xor_L
  | xor_A
  | xor_atHL
  | cp_B
  | cp_C
  | cp_D
  | cp_E
  | cp_H
  | cp_L
  | cp_A
  | cp_atHL
  | inc_B
  | inc_C
  | inc_D
  | inc_E
  | inc_H
  | inc_L
  | inc_A
  | inc_atHL
  | dec_B
  | dec_C
  | dec_D
  | dec_E
  | dec_H
  | dec_L
  | dec_A
  | dec_atHL
  | neg
  | cpl
  | ccf
  | scf
  -- 16-bit arithmetic and logic (44_alu16.md), no operand byte
  | add_HL_BC
  | add_HL_DE
  | add_HL_HL
  | add_HL_SP
  | add_IX_BC
  | add_IX_DE
  | add_IX_IX
  | add_IX_SP
  | add_IY_BC
  | add_IY_DE
  | add_IY_IY
  | add_IY_SP
  | adc_HL_BC
  | adc_HL_DE
  | adc_HL_HL
  | adc_HL_SP
  | sbc_HL_BC
  | sbc_HL_DE
  | sbc_HL_HL
  | sbc_HL_SP
  | and_HL_DE
  | and_IX_DE
  | and_IY_DE
  | or_HL_DE
  | or_IX_DE
  | or_IY_DE
  | bool_HL
  | bool_IX
  | bool_IY
  | inc_BC
  | inc_DE
  | inc_HL
  | inc_SP
  | inc_IX
  | inc_IY
  | dec_BC
  | dec_DE
  | dec_HL
  | dec_SP
  | dec_IX
  | dec_IY
  | mul
  -- Rotates and shifts (45_rotate_shift.md), no operand byte
  | rlca
  | rla
  | rrca
  | rra
  | rlc_B
  | rlc_C
  | rlc_D
  | rlc_E
  | rlc_H
  | rlc_L
  | rlc_A
  | rlc_atHL
  | rl_B
  | rl_C
  | rl_D
  | rl_E
  | rl_H
  | rl_L
  | rl_A
  | rl_atHL
  | rrc_B
  | rrc_C
  | rrc_D
  | rrc_E
  | rrc_H
  | rrc_L
  | rrc_A
  | rrc_atHL
  | rr_B
  | rr_C
  | rr_D
  | rr_E
  | rr_H
  | rr_L
  | rr_A
  | rr_atHL
  | sla_B
  | sla_C
  | sla_D
  | sla_E
  | sla_H
  | sla_L
  | sla_A
  | sla_atHL
  | sra_B
  | sra_C
  | sra_D
  | sra_E
  | sra_H
  | sra_L
  | sra_A
  | sra_atHL
  | srl_B
  | srl_C
  | srl_D
  | srl_E
  | srl_H
  | srl_L
  | srl_A
  | srl_atHL
  | rl_DE
  | rr_DE
  | rr_HL
  | rr_IX
  | rr_IY
  -- Bit test, reset and set (46_bit.md), no operand byte
  | bit_0_B
  | bit_0_C
  | bit_0_D
  | bit_0_E
  | bit_0_H
  | bit_0_L
  | bit_0_A
  | bit_1_B
  | bit_1_C
  | bit_1_D
  | bit_1_E
  | bit_1_H
  | bit_1_L
  | bit_1_A
  | bit_2_B
  | bit_2_C
  | bit_2_D
  | bit_2_E
  | bit_2_H
  | bit_2_L
  | bit_2_A
  | bit_3_B
  | bit_3_C
  | bit_3_D
  | bit_3_E
  | bit_3_H
  | bit_3_L
  | bit_3_A
  | bit_4_B
  | bit_4_C
  | bit_4_D
  | bit_4_E
  | bit_4_H
  | bit_4_L
  | bit_4_A
  | bit_5_B
  | bit_5_C
  | bit_5_D
  | bit_5_E
  | bit_5_H
  | bit_5_L
  | bit_5_A
  | bit_6_B
  | bit_6_C
  | bit_6_D
  | bit_6_E
  | bit_6_H
  | bit_6_L
  | bit_6_A
  | bit_7_B
  | bit_7_C
  | bit_7_D
  | bit_7_E
  | bit_7_H
  | bit_7_L
  | bit_7_A
  | bit_0_atHL
  | bit_1_atHL
  | bit_2_atHL
  | bit_3_atHL
  | bit_4_atHL
  | bit_5_atHL
  | bit_6_atHL
  | bit_7_atHL
  | res_0_B
  | res_0_C
  | res_0_D
  | res_0_E
  | res_0_H
  | res_0_L
  | res_0_A
  | res_1_B
  | res_1_C
  | res_1_D
  | res_1_E
  | res_1_H
  | res_1_L
  | res_1_A
  | res_2_B
  | res_2_C
  | res_2_D
  | res_2_E
  | res_2_H
  | res_2_L
  | res_2_A
  | res_3_B
  | res_3_C
  | res_3_D
  | res_3_E
  | res_3_H
  | res_3_L
  | res_3_A
  | res_4_B
  | res_4_C
  | res_4_D
  | res_4_E
  | res_4_H
  | res_4_L
  | res_4_A
  | res_5_B
  | res_5_C
  | res_5_D
  | res_5_E
  | res_5_H
  | res_5_L
  | res_5_A
  | res_6_B
  | res_6_C
  | res_6_D
  | res_6_E
  | res_6_H
  | res_6_L
  | res_6_A
  | res_7_B
  | res_7_C
  | res_7_D
  | res_7_E
  | res_7_H
  | res_7_L
  | res_7_A
  | res_0_atHL
  | res_1_atHL
  | res_2_atHL
  | res_3_atHL
  | res_4_atHL
  | res_5_atHL
  | res_6_atHL
  | res_7_atHL
  | set_0_B
  | set_0_C
  | set_0_D
  | set_0_E
  | set_0_H
  | set_0_L
  | set_0_A
  | set_1_B
  | set_1_C
  | set_1_D
  | set_1_E
  | set_1_H
  | set_1_L
  | set_1_A
  | set_2_B
  | set_2_C
  | set_2_D
  | set_2_E
  | set_2_H
  | set_2_L
  | set_2_A
  | set_3_B
  | set_3_C
  | set_3_D
  | set_3_E
  | set_3_H
  | set_3_L
  | set_3_A
  | set_4_B
  | set_4_C
  | set_4_D
  | set_4_E
  | set_4_H
  | set_4_L
  | set_4_A
  | set_5_B
  | set_5_C
  | set_5_D
  | set_5_E
  | set_5_H
  | set_5_L
  | set_5_A
  | set_6_B
  | set_6_C
  | set_6_D
  | set_6_E
  | set_6_H
  | set_6_L
  | set_6_A
  | set_7_B
  | set_7_C
  | set_7_D
  | set_7_E
  | set_7_H
  | set_7_L
  | set_7_A
  | set_0_atHL
  | set_1_atHL
  | set_2_atHL
  | set_3_atHL
  | set_4_atHL
  | set_5_atHL
  | set_6_atHL
  | set_7_atHL
  -- Jumps, calls and returns (47_control.md), no operand byte
  | jp_atHL
  | jp_atIX
  | jp_atIY
  | ret
  | ret_NZ
  | ret_Z
  | ret_NC
  | ret_C
  | ret_LZ
  | ret_LO
  | ret_P
  | ret_M
  | lret
  | rst_10
  | rst_18
  | rst_20
  | rst_28
  | rst_38
  -- Block moves, UMA and UMS (48_block.md), no operand byte
  | ldi
  | ldd
  | ldir
  | lddr
  | ldisr
  | lddsr
  | lsir
  | lsdr
  | lsidr
  | lsddr
  | uma
  | ums
  -- NOP, prefix bytes, priority and mode (49_prefix_system.md), no operand byte
  | nop
  | altd
  | ioi
  | ioe
  | ipset_0
  | ipset_1
  | ipset_2
  | ipset_3
  | ipres
  | reti
  | idet
  | rdmode
  | setusr
  | sures
  | syscall
deriving DecidableEq, Repr

end Sys2Proof
end

