-- ==== Sys2Proof/Machine/Forms.lean ====
section
/-! DEFINITION. The instruction forms: for every family of rows with fields (30_encoding.md R122, R131-R134), the
constructor that field values select. The decoder builds instructions with them; each bears the name of the meaning
its rows share. -/

namespace Sys2Proof

open Machine

/-- LD r,g (R201). -/
def Form.ldRG : Reg8 → Reg8 → Instr
  | .b, .b => .ld_B_B
  | .b, .c => .ld_B_C
  | .b, .d => .ld_B_D
  | .b, .e => .ld_B_E
  | .b, .h => .ld_B_H
  | .b, .l => .ld_B_L
  | .b, .a => .ld_B_A
  | .c, .b => .ld_C_B
  | .c, .c => .ld_C_C
  | .c, .d => .ld_C_D
  | .c, .e => .ld_C_E
  | .c, .h => .ld_C_H
  | .c, .l => .ld_C_L
  | .c, .a => .ld_C_A
  | .d, .b => .ld_D_B
  | .d, .c => .ld_D_C
  | .d, .d => .ld_D_D
  | .d, .e => .ld_D_E
  | .d, .h => .ld_D_H
  | .d, .l => .ld_D_L
  | .d, .a => .ld_D_A
  | .e, .b => .ld_E_B
  | .e, .c => .ld_E_C
  | .e, .d => .ld_E_D
  | .e, .e => .ld_E_E
  | .e, .h => .ld_E_H
  | .e, .l => .ld_E_L
  | .e, .a => .ld_E_A
  | .h, .b => .ld_H_B
  | .h, .c => .ld_H_C
  | .h, .d => .ld_H_D
  | .h, .e => .ld_H_E
  | .h, .h => .ld_H_H
  | .h, .l => .ld_H_L
  | .h, .a => .ld_H_A
  | .l, .b => .ld_L_B
  | .l, .c => .ld_L_C
  | .l, .d => .ld_L_D
  | .l, .e => .ld_L_E
  | .l, .h => .ld_L_H
  | .l, .l => .ld_L_L
  | .l, .a => .ld_L_A
  | .a, .b => .ld_A_B
  | .a, .c => .ld_A_C
  | .a, .d => .ld_A_D
  | .a, .e => .ld_A_E
  | .a, .h => .ld_A_H
  | .a, .l => .ld_A_L
  | .a, .a => .ld_A_A

/-- LD r,n (R202). -/
def Form.ldRN : Reg8 → Byte → Instr
  | .b, n => .ld_B_n n
  | .c, n => .ld_C_n n
  | .d, n => .ld_D_n n
  | .e, n => .ld_E_n n
  | .h, n => .ld_H_n n
  | .l, n => .ld_L_n n
  | .a, n => .ld_A_n n

/-- LD r,(HL) (R203). -/
def Form.ldRAtHL : Reg8 → Instr
  | .b => .ld_B_atHL
  | .c => .ld_C_atHL
  | .d => .ld_D_atHL
  | .e => .ld_E_atHL
  | .h => .ld_H_atHL
  | .l => .ld_L_atHL
  | .a => .ld_A_atHL

/-- LD r,(IX+d) (R204, R205). -/
def Form.ldRAtIdx : Idx → Reg8 → Byte → Instr
  | .ix, .b, d => .ld_B_atIXd d
  | .ix, .c, d => .ld_C_atIXd d
  | .ix, .d, d => .ld_D_atIXd d
  | .ix, .e, d => .ld_E_atIXd d
  | .ix, .h, d => .ld_H_atIXd d
  | .ix, .l, d => .ld_L_atIXd d
  | .ix, .a, d => .ld_A_atIXd d
  | .iy, .b, d => .ld_B_atIYd d
  | .iy, .c, d => .ld_C_atIYd d
  | .iy, .d, d => .ld_D_atIYd d
  | .iy, .e, d => .ld_E_atIYd d
  | .iy, .h, d => .ld_H_atIYd d
  | .iy, .l, d => .ld_L_atIYd d
  | .iy, .a, d => .ld_A_atIYd d

/-- LD (HL),r (R206). -/
def Form.ldAtHLR : Reg8 → Instr
  | .b => .ld_atHL_B
  | .c => .ld_atHL_C
  | .d => .ld_atHL_D
  | .e => .ld_atHL_E
  | .h => .ld_atHL_H
  | .l => .ld_atHL_L
  | .a => .ld_atHL_A

/-- LD (IX+d),r (R208, R210). -/
def Form.ldAtIdxR : Idx → Reg8 → Byte → Instr
  | .ix, .b, d => .ld_atIXd_B d
  | .ix, .c, d => .ld_atIXd_C d
  | .ix, .d, d => .ld_atIXd_D d
  | .ix, .e, d => .ld_atIXd_E d
  | .ix, .h, d => .ld_atIXd_H d
  | .ix, .l, d => .ld_atIXd_L d
  | .ix, .a, d => .ld_atIXd_A d
  | .iy, .b, d => .ld_atIYd_B d
  | .iy, .c, d => .ld_atIYd_C d
  | .iy, .d, d => .ld_atIYd_D d
  | .iy, .e, d => .ld_atIYd_E d
  | .iy, .h, d => .ld_atIYd_H d
  | .iy, .l, d => .ld_atIYd_L d
  | .iy, .a, d => .ld_atIYd_A d

/-- LD (IX+d),n (R209, R211). -/
def Form.ldAtIdxN : Idx → Byte → Byte → Instr
  | .ix, d, n => .ld_atIXd_n d n
  | .iy, d, n => .ld_atIYd_n d n

/-- LD dd,mn (R241). -/
def Form.ldDdMn : Dd → Word → Instr
  | .bc, mn => .ld_BC_mn mn
  | .de, mn => .ld_DE_mn mn
  | .hl, mn => .ld_HL_mn mn
  | .sp, mn => .ld_SP_mn mn

/-- LD IX,mn (R242, R243). -/
def Form.ldIdxMn : Idx → Word → Instr
  | .ix, mn => .ld_IX_mn mn
  | .iy, mn => .ld_IY_mn mn

/-- LD dd,(mn) (R245). -/
def Form.ldDdAtMn : Dd → Word → Instr
  | .bc, mn => .ld_BC_atMn mn
  | .de, mn => .ld_DE_atMn mn
  | .hl, mn => .ld_HL_atMn_ed mn
  | .sp, mn => .ld_SP_atMn mn

/-- LD IX,(mn) (R246, R247). -/
def Form.ldIdxAtMn : Idx → Word → Instr
  | .ix, mn => .ld_IX_atMn mn
  | .iy, mn => .ld_IY_atMn mn

/-- LD (mn),ss (R249). -/
def Form.ldAtMnSs : Dd → Word → Instr
  | .bc, mn => .ld_atMn_BC mn
  | .de, mn => .ld_atMn_DE mn
  | .hl, mn => .ld_atMn_HL_ed mn
  | .sp, mn => .ld_atMn_SP mn

/-- LD (mn),IX (R250, R251). -/
def Form.ldAtMnIdx : Idx → Word → Instr
  | .ix, mn => .ld_atMn_IX mn
  | .iy, mn => .ld_atMn_IY mn

/-- LD HL,(IX+d) (R253, R254). -/
def Form.ldHLAtIdx : Idx → Byte → Instr
  | .ix, d => .ld_HL_atIXd d
  | .iy, d => .ld_HL_atIYd d

/-- LD (IX+d),HL (R256, R257). -/
def Form.ldAtIdxHL : Idx → Byte → Instr
  | .ix, d => .ld_atIXd_HL d
  | .iy, d => .ld_atIYd_HL d

/-- LD IX,(SP+n) (R259, R260). -/
def Form.ldIdxAtSP : Idx → Byte → Instr
  | .ix, n => .ld_IX_atSPn n
  | .iy, n => .ld_IY_atSPn n

/-- LD (SP+n),IX (R262, R263). -/
def Form.ldAtSPIdx : Idx → Byte → Instr
  | .ix, n => .ld_atSPn_IX n
  | .iy, n => .ld_atSPn_IY n

/-- LD HL,IX (R264, R265). -/
def Form.ldHLIdx : Idx → Instr
  | .ix => .ld_HL_IX
  | .iy => .ld_HL_IY

/-- LD IX,HL (R266, R267). -/
def Form.ldIdxHL : Idx → Instr
  | .ix => .ld_IX_HL
  | .iy => .ld_IY_HL

/-- LD SP,IX (R269, R270). -/
def Form.ldSPIdx : Idx → Instr
  | .ix => .ld_SP_IX
  | .iy => .ld_SP_IY

/-- LD dd',BC (R271). -/
def Form.ldAltBC : Pair → Instr
  | .bc => .ld_BC'_BC
  | .de => .ld_DE'_BC
  | .hl => .ld_HL'_BC

/-- LD dd',DE (R272). -/
def Form.ldAltDE : Pair → Instr
  | .bc => .ld_BC'_DE
  | .de => .ld_DE'_DE
  | .hl => .ld_HL'_DE

/-- LDP (IX),HL (R274, R275). -/
def Form.ldpAtIdxHL : Idx → Instr
  | .ix => .ldp_atIX_HL
  | .iy => .ldp_atIY_HL

/-- LDP (mn),IX (R277, R278). -/
def Form.ldpAtMnIdx : Idx → Word → Instr
  | .ix, mn => .ldp_atMn_IX mn
  | .iy, mn => .ldp_atMn_IY mn

/-- LDP HL,(IX) (R280, R281). -/
def Form.ldpHLAtIdx : Idx → Instr
  | .ix => .ldp_HL_atIX
  | .iy => .ldp_HL_atIY

/-- LDP IX,(mn) (R283, R284). -/
def Form.ldpIdxAtMn : Idx → Word → Instr
  | .ix, mn => .ldp_IX_atMn mn
  | .iy, mn => .ldp_IY_atMn mn

/-- PUSH zz (R301). -/
def Form.pushZz : Zz → Instr
  | .bc => .push_BC
  | .de => .push_DE
  | .hl => .push_HL
  | .af => .push_AF

/-- PUSH IX (R302, R303). -/
def Form.pushIdx : Idx → Instr
  | .ix => .push_IX
  | .iy => .push_IY

/-- POP zz (R306). -/
def Form.popZz : Zz → Instr
  | .bc => .pop_BC
  | .de => .pop_DE
  | .hl => .pop_HL
  | .af => .pop_AF

/-- POP IX (R307, R308). -/
def Form.popIdx : Idx → Instr
  | .ix => .pop_IX
  | .iy => .pop_IY

/-- EX (SP),IX (R316, R317). -/
def Form.exAtSPIdx : Idx → Instr
  | .ix => .ex_atSP_IX
  | .iy => .ex_atSP_IY

/-- ADD A,r (R343, R348, R353, R358, R363, R368, R373, R378). -/
def Form.aluR : AluOp → Reg8 → Instr
  | .add, .b => .add_A_B
  | .add, .c => .add_A_C
  | .add, .d => .add_A_D
  | .add, .e => .add_A_E
  | .add, .h => .add_A_H
  | .add, .l => .add_A_L
  | .add, .a => .add_A_A
  | .adc, .b => .adc_A_B
  | .adc, .c => .adc_A_C
  | .adc, .d => .adc_A_D
  | .adc, .e => .adc_A_E
  | .adc, .h => .adc_A_H
  | .adc, .l => .adc_A_L
  | .adc, .a => .adc_A_A
  | .sub, .b => .sub_B
  | .sub, .c => .sub_C
  | .sub, .d => .sub_D
  | .sub, .e => .sub_E
  | .sub, .h => .sub_H
  | .sub, .l => .sub_L
  | .sub, .a => .sub_A
  | .sbc, .b => .sbc_A_B
  | .sbc, .c => .sbc_A_C
  | .sbc, .d => .sbc_A_D
  | .sbc, .e => .sbc_A_E
  | .sbc, .h => .sbc_A_H
  | .sbc, .l => .sbc_A_L
  | .sbc, .a => .sbc_A_A
  | .and, .b => .and_B
  | .and, .c => .and_C
  | .and, .d => .and_D
  | .and, .e => .and_E
  | .and, .h => .and_H
  | .and, .l => .and_L
  | .and, .a => .and_A
  | .or, .b => .or_B
  | .or, .c => .or_C
  | .or, .d => .or_D
  | .or, .e => .or_E
  | .or, .h => .or_H
  | .or, .l => .or_L
  | .or, .a => .or_A
  | .xor, .b => .xor_B
  | .xor, .c => .xor_C
  | .xor, .d => .xor_D
  | .xor, .e => .xor_E
  | .xor, .h => .xor_H
  | .xor, .l => .xor_L
  | .xor, .a => .xor_A
  | .cp, .b => .cp_B
  | .cp, .c => .cp_C
  | .cp, .d => .cp_D
  | .cp, .e => .cp_E
  | .cp, .h => .cp_H
  | .cp, .l => .cp_L
  | .cp, .a => .cp_A

/-- ADD A,n (R344, R349, R354, R359, R364, R369, R374, R379). -/
def Form.aluN : AluOp → Byte → Instr
  | .add, n => .add_A_n n
  | .adc, n => .adc_A_n n
  | .sub, n => .sub_n n
  | .sbc, n => .sbc_A_n n
  | .and, n => .and_n n
  | .or, n => .or_n n
  | .xor, n => .xor_n n
  | .cp, n => .cp_n n

/-- ADD A,(HL) (R345, R350, R355, R360, R365, R370, R375, R380). -/
def Form.aluAtHL : AluOp → Instr
  | .add => .add_A_atHL
  | .adc => .adc_A_atHL
  | .sub => .sub_atHL
  | .sbc => .sbc_A_atHL
  | .and => .and_atHL
  | .or => .or_atHL
  | .xor => .xor_atHL
  | .cp => .cp_atHL

/-- ADD A,(IX+d) (R346, R347, R351, R352, R356, R357, R361, R362, R366, R367, R371, R372, R376, R377, R381, R382). -/
def Form.aluAtIdx : AluOp → Idx → Byte → Instr
  | .add, .ix, d => .add_A_atIXd d
  | .add, .iy, d => .add_A_atIYd d
  | .adc, .ix, d => .adc_A_atIXd d
  | .adc, .iy, d => .adc_A_atIYd d
  | .sub, .ix, d => .sub_atIXd d
  | .sub, .iy, d => .sub_atIYd d
  | .sbc, .ix, d => .sbc_A_atIXd d
  | .sbc, .iy, d => .sbc_A_atIYd d
  | .and, .ix, d => .and_atIXd d
  | .and, .iy, d => .and_atIYd d
  | .or, .ix, d => .or_atIXd d
  | .or, .iy, d => .or_atIYd d
  | .xor, .ix, d => .xor_atIXd d
  | .xor, .iy, d => .xor_atIYd d
  | .cp, .ix, d => .cp_atIXd d
  | .cp, .iy, d => .cp_atIYd d

/-- INC r (R383). -/
def Form.incR : Reg8 → Instr
  | .b => .inc_B
  | .c => .inc_C
  | .d => .inc_D
  | .e => .inc_E
  | .h => .inc_H
  | .l => .inc_L
  | .a => .inc_A

/-- INC (IX+d) (R385, R386). -/
def Form.incAtIdx : Idx → Byte → Instr
  | .ix, d => .inc_atIXd d
  | .iy, d => .inc_atIYd d

/-- DEC r (R387). -/
def Form.decR : Reg8 → Instr
  | .b => .dec_B
  | .c => .dec_C
  | .d => .dec_D
  | .e => .dec_E
  | .h => .dec_H
  | .l => .dec_L
  | .a => .dec_A

/-- DEC (IX+d) (R389, R390). -/
def Form.decAtIdx : Idx → Byte → Instr
  | .ix, d => .dec_atIXd d
  | .iy, d => .dec_atIYd d

/-- ADD HL,ss (R401). -/
def Form.addHLSs : Dd → Instr
  | .bc => .add_HL_BC
  | .de => .add_HL_DE
  | .hl => .add_HL_HL
  | .sp => .add_HL_SP

/-- ADD IX,xx (R402, R403). -/
def Form.addIdx : Idx → Xx → Instr
  | .ix, .bc => .add_IX_BC
  | .ix, .de => .add_IX_DE
  | .ix, .self => .add_IX_IX
  | .ix, .sp => .add_IX_SP
  | .iy, .bc => .add_IY_BC
  | .iy, .de => .add_IY_DE
  | .iy, .self => .add_IY_IY
  | .iy, .sp => .add_IY_SP

/-- ADC HL,ss (R405). -/
def Form.adcHLSs : Dd → Instr
  | .bc => .adc_HL_BC
  | .de => .adc_HL_DE
  | .hl => .adc_HL_HL
  | .sp => .adc_HL_SP

/-- SBC HL,ss (R406). -/
def Form.sbcHLSs : Dd → Instr
  | .bc => .sbc_HL_BC
  | .de => .sbc_HL_DE
  | .hl => .sbc_HL_HL
  | .sp => .sbc_HL_SP

/-- AND IX,DE (R408, R409). -/
def Form.andIdxDE : Idx → Instr
  | .ix => .and_IX_DE
  | .iy => .and_IY_DE

/-- OR IX,DE (R411, R412). -/
def Form.orIdxDE : Idx → Instr
  | .ix => .or_IX_DE
  | .iy => .or_IY_DE

/-- BOOL IX (R414, R415). -/
def Form.boolIdx : Idx → Instr
  | .ix => .bool_IX
  | .iy => .bool_IY

/-- INC ss (R416). -/
def Form.incSs : Dd → Instr
  | .bc => .inc_BC
  | .de => .inc_DE
  | .hl => .inc_HL
  | .sp => .inc_SP

/-- INC IX (R417, R418). -/
def Form.incIdx : Idx → Instr
  | .ix => .inc_IX
  | .iy => .inc_IY

/-- DEC ss (R419). -/
def Form.decSs : Dd → Instr
  | .bc => .dec_BC
  | .de => .dec_DE
  | .hl => .dec_HL
  | .sp => .dec_SP

/-- DEC IX (R420, R421). -/
def Form.decIdx : Idx → Instr
  | .ix => .dec_IX
  | .iy => .dec_IY

/-- RLC r (R445, R449, R453, R457, R461, R465, R469). -/
def Form.rotR : RotOp → Reg8 → Instr
  | .rlc, .b => .rlc_B
  | .rlc, .c => .rlc_C
  | .rlc, .d => .rlc_D
  | .rlc, .e => .rlc_E
  | .rlc, .h => .rlc_H
  | .rlc, .l => .rlc_L
  | .rlc, .a => .rlc_A
  | .rl, .b => .rl_B
  | .rl, .c => .rl_C
  | .rl, .d => .rl_D
  | .rl, .e => .rl_E
  | .rl, .h => .rl_H
  | .rl, .l => .rl_L
  | .rl, .a => .rl_A
  | .rrc, .b => .rrc_B
  | .rrc, .c => .rrc_C
  | .rrc, .d => .rrc_D
  | .rrc, .e => .rrc_E
  | .rrc, .h => .rrc_H
  | .rrc, .l => .rrc_L
  | .rrc, .a => .rrc_A
  | .rr, .b => .rr_B
  | .rr, .c => .rr_C
  | .rr, .d => .rr_D
  | .rr, .e => .rr_E
  | .rr, .h => .rr_H
  | .rr, .l => .rr_L
  | .rr, .a => .rr_A
  | .sla, .b => .sla_B
  | .sla, .c => .sla_C
  | .sla, .d => .sla_D
  | .sla, .e => .sla_E
  | .sla, .h => .sla_H
  | .sla, .l => .sla_L
  | .sla, .a => .sla_A
  | .sra, .b => .sra_B
  | .sra, .c => .sra_C
  | .sra, .d => .sra_D
  | .sra, .e => .sra_E
  | .sra, .h => .sra_H
  | .sra, .l => .sra_L
  | .sra, .a => .sra_A
  | .srl, .b => .srl_B
  | .srl, .c => .srl_C
  | .srl, .d => .srl_D
  | .srl, .e => .srl_E
  | .srl, .h => .srl_H
  | .srl, .l => .srl_L
  | .srl, .a => .srl_A

/-- RLC (HL) (R446, R450, R454, R458, R462, R466, R470). -/
def Form.rotAtHL : RotOp → Instr
  | .rlc => .rlc_atHL
  | .rl => .rl_atHL
  | .rrc => .rrc_atHL
  | .rr => .rr_atHL
  | .sla => .sla_atHL
  | .sra => .sra_atHL
  | .srl => .srl_atHL

/-- RLC (IX+d) (R447, R448, R451, R452, R455, R456, R459, R460, R463, R464, R467, R468, R471, R472). -/
def Form.rotAtIdx : RotOp → Idx → Byte → Instr
  | .rlc, .ix, d => .rlc_atIXd d
  | .rlc, .iy, d => .rlc_atIYd d
  | .rl, .ix, d => .rl_atIXd d
  | .rl, .iy, d => .rl_atIYd d
  | .rrc, .ix, d => .rrc_atIXd d
  | .rrc, .iy, d => .rrc_atIYd d
  | .rr, .ix, d => .rr_atIXd d
  | .rr, .iy, d => .rr_atIYd d
  | .sla, .ix, d => .sla_atIXd d
  | .sla, .iy, d => .sla_atIYd d
  | .sra, .ix, d => .sra_atIXd d
  | .sra, .iy, d => .sra_atIYd d
  | .srl, .ix, d => .srl_atIXd d
  | .srl, .iy, d => .srl_atIYd d

/-- RR IX (R476, R477). -/
def Form.rrIdx : Idx → Instr
  | .ix => .rr_IX
  | .iy => .rr_IY

/-- BIT b,r (R481). -/
def Form.bitR : BitNo → Reg8 → Instr
  | .b0, .b => .bit_0_B
  | .b0, .c => .bit_0_C
  | .b0, .d => .bit_0_D
  | .b0, .e => .bit_0_E
  | .b0, .h => .bit_0_H
  | .b0, .l => .bit_0_L
  | .b0, .a => .bit_0_A
  | .b1, .b => .bit_1_B
  | .b1, .c => .bit_1_C
  | .b1, .d => .bit_1_D
  | .b1, .e => .bit_1_E
  | .b1, .h => .bit_1_H
  | .b1, .l => .bit_1_L
  | .b1, .a => .bit_1_A
  | .b2, .b => .bit_2_B
  | .b2, .c => .bit_2_C
  | .b2, .d => .bit_2_D
  | .b2, .e => .bit_2_E
  | .b2, .h => .bit_2_H
  | .b2, .l => .bit_2_L
  | .b2, .a => .bit_2_A
  | .b3, .b => .bit_3_B
  | .b3, .c => .bit_3_C
  | .b3, .d => .bit_3_D
  | .b3, .e => .bit_3_E
  | .b3, .h => .bit_3_H
  | .b3, .l => .bit_3_L
  | .b3, .a => .bit_3_A
  | .b4, .b => .bit_4_B
  | .b4, .c => .bit_4_C
  | .b4, .d => .bit_4_D
  | .b4, .e => .bit_4_E
  | .b4, .h => .bit_4_H
  | .b4, .l => .bit_4_L
  | .b4, .a => .bit_4_A
  | .b5, .b => .bit_5_B
  | .b5, .c => .bit_5_C
  | .b5, .d => .bit_5_D
  | .b5, .e => .bit_5_E
  | .b5, .h => .bit_5_H
  | .b5, .l => .bit_5_L
  | .b5, .a => .bit_5_A
  | .b6, .b => .bit_6_B
  | .b6, .c => .bit_6_C
  | .b6, .d => .bit_6_D
  | .b6, .e => .bit_6_E
  | .b6, .h => .bit_6_H
  | .b6, .l => .bit_6_L
  | .b6, .a => .bit_6_A
  | .b7, .b => .bit_7_B
  | .b7, .c => .bit_7_C
  | .b7, .d => .bit_7_D
  | .b7, .e => .bit_7_E
  | .b7, .h => .bit_7_H
  | .b7, .l => .bit_7_L
  | .b7, .a => .bit_7_A

/-- BIT b,(HL) (R482). -/
def Form.bitAtHL : BitNo → Instr
  | .b0 => .bit_0_atHL
  | .b1 => .bit_1_atHL
  | .b2 => .bit_2_atHL
  | .b3 => .bit_3_atHL
  | .b4 => .bit_4_atHL
  | .b5 => .bit_5_atHL
  | .b6 => .bit_6_atHL
  | .b7 => .bit_7_atHL

/-- BIT b,(IX+d) (R483, R484). -/
def Form.bitAtIdx : BitNo → Idx → Byte → Instr
  | .b0, .ix, d => .bit_0_atIXd d
  | .b1, .ix, d => .bit_1_atIXd d
  | .b2, .ix, d => .bit_2_atIXd d
  | .b3, .ix, d => .bit_3_atIXd d
  | .b4, .ix, d => .bit_4_atIXd d
  | .b5, .ix, d => .bit_5_atIXd d
  | .b6, .ix, d => .bit_6_atIXd d
  | .b7, .ix, d => .bit_7_atIXd d
  | .b0, .iy, d => .bit_0_atIYd d
  | .b1, .iy, d => .bit_1_atIYd d
  | .b2, .iy, d => .bit_2_atIYd d
  | .b3, .iy, d => .bit_3_atIYd d
  | .b4, .iy, d => .bit_4_atIYd d
  | .b5, .iy, d => .bit_5_atIYd d
  | .b6, .iy, d => .bit_6_atIYd d
  | .b7, .iy, d => .bit_7_atIYd d

/-- RES b,r (R485). -/
def Form.resR : BitNo → Reg8 → Instr
  | .b0, .b => .res_0_B
  | .b0, .c => .res_0_C
  | .b0, .d => .res_0_D
  | .b0, .e => .res_0_E
  | .b0, .h => .res_0_H
  | .b0, .l => .res_0_L
  | .b0, .a => .res_0_A
  | .b1, .b => .res_1_B
  | .b1, .c => .res_1_C
  | .b1, .d => .res_1_D
  | .b1, .e => .res_1_E
  | .b1, .h => .res_1_H
  | .b1, .l => .res_1_L
  | .b1, .a => .res_1_A
  | .b2, .b => .res_2_B
  | .b2, .c => .res_2_C
  | .b2, .d => .res_2_D
  | .b2, .e => .res_2_E
  | .b2, .h => .res_2_H
  | .b2, .l => .res_2_L
  | .b2, .a => .res_2_A
  | .b3, .b => .res_3_B
  | .b3, .c => .res_3_C
  | .b3, .d => .res_3_D
  | .b3, .e => .res_3_E
  | .b3, .h => .res_3_H
  | .b3, .l => .res_3_L
  | .b3, .a => .res_3_A
  | .b4, .b => .res_4_B
  | .b4, .c => .res_4_C
  | .b4, .d => .res_4_D
  | .b4, .e => .res_4_E
  | .b4, .h => .res_4_H
  | .b4, .l => .res_4_L
  | .b4, .a => .res_4_A
  | .b5, .b => .res_5_B
  | .b5, .c => .res_5_C
  | .b5, .d => .res_5_D
  | .b5, .e => .res_5_E
  | .b5, .h => .res_5_H
  | .b5, .l => .res_5_L
  | .b5, .a => .res_5_A
  | .b6, .b => .res_6_B
  | .b6, .c => .res_6_C
  | .b6, .d => .res_6_D
  | .b6, .e => .res_6_E
  | .b6, .h => .res_6_H
  | .b6, .l => .res_6_L
  | .b6, .a => .res_6_A
  | .b7, .b => .res_7_B
  | .b7, .c => .res_7_C
  | .b7, .d => .res_7_D
  | .b7, .e => .res_7_E
  | .b7, .h => .res_7_H
  | .b7, .l => .res_7_L
  | .b7, .a => .res_7_A

/-- RES b,(HL) (R486). -/
def Form.resAtHL : BitNo → Instr
  | .b0 => .res_0_atHL
  | .b1 => .res_1_atHL
  | .b2 => .res_2_atHL
  | .b3 => .res_3_atHL
  | .b4 => .res_4_atHL
  | .b5 => .res_5_atHL
  | .b6 => .res_6_atHL
  | .b7 => .res_7_atHL

/-- RES b,(IX+d) (R487, R488). -/
def Form.resAtIdx : BitNo → Idx → Byte → Instr
  | .b0, .ix, d => .res_0_atIXd d
  | .b1, .ix, d => .res_1_atIXd d
  | .b2, .ix, d => .res_2_atIXd d
  | .b3, .ix, d => .res_3_atIXd d
  | .b4, .ix, d => .res_4_atIXd d
  | .b5, .ix, d => .res_5_atIXd d
  | .b6, .ix, d => .res_6_atIXd d
  | .b7, .ix, d => .res_7_atIXd d
  | .b0, .iy, d => .res_0_atIYd d
  | .b1, .iy, d => .res_1_atIYd d
  | .b2, .iy, d => .res_2_atIYd d
  | .b3, .iy, d => .res_3_atIYd d
  | .b4, .iy, d => .res_4_atIYd d
  | .b5, .iy, d => .res_5_atIYd d
  | .b6, .iy, d => .res_6_atIYd d
  | .b7, .iy, d => .res_7_atIYd d

/-- SET b,r (R489). -/
def Form.setR : BitNo → Reg8 → Instr
  | .b0, .b => .set_0_B
  | .b0, .c => .set_0_C
  | .b0, .d => .set_0_D
  | .b0, .e => .set_0_E
  | .b0, .h => .set_0_H
  | .b0, .l => .set_0_L
  | .b0, .a => .set_0_A
  | .b1, .b => .set_1_B
  | .b1, .c => .set_1_C
  | .b1, .d => .set_1_D
  | .b1, .e => .set_1_E
  | .b1, .h => .set_1_H
  | .b1, .l => .set_1_L
  | .b1, .a => .set_1_A
  | .b2, .b => .set_2_B
  | .b2, .c => .set_2_C
  | .b2, .d => .set_2_D
  | .b2, .e => .set_2_E
  | .b2, .h => .set_2_H
  | .b2, .l => .set_2_L
  | .b2, .a => .set_2_A
  | .b3, .b => .set_3_B
  | .b3, .c => .set_3_C
  | .b3, .d => .set_3_D
  | .b3, .e => .set_3_E
  | .b3, .h => .set_3_H
  | .b3, .l => .set_3_L
  | .b3, .a => .set_3_A
  | .b4, .b => .set_4_B
  | .b4, .c => .set_4_C
  | .b4, .d => .set_4_D
  | .b4, .e => .set_4_E
  | .b4, .h => .set_4_H
  | .b4, .l => .set_4_L
  | .b4, .a => .set_4_A
  | .b5, .b => .set_5_B
  | .b5, .c => .set_5_C
  | .b5, .d => .set_5_D
  | .b5, .e => .set_5_E
  | .b5, .h => .set_5_H
  | .b5, .l => .set_5_L
  | .b5, .a => .set_5_A
  | .b6, .b => .set_6_B
  | .b6, .c => .set_6_C
  | .b6, .d => .set_6_D
  | .b6, .e => .set_6_E
  | .b6, .h => .set_6_H
  | .b6, .l => .set_6_L
  | .b6, .a => .set_6_A
  | .b7, .b => .set_7_B
  | .b7, .c => .set_7_C
  | .b7, .d => .set_7_D
  | .b7, .e => .set_7_E
  | .b7, .h => .set_7_H
  | .b7, .l => .set_7_L
  | .b7, .a => .set_7_A

/-- SET b,(HL) (R490). -/
def Form.setAtHL : BitNo → Instr
  | .b0 => .set_0_atHL
  | .b1 => .set_1_atHL
  | .b2 => .set_2_atHL
  | .b3 => .set_3_atHL
  | .b4 => .set_4_atHL
  | .b5 => .set_5_atHL
  | .b6 => .set_6_atHL
  | .b7 => .set_7_atHL

/-- SET b,(IX+d) (R491, R492). -/
def Form.setAtIdx : BitNo → Idx → Byte → Instr
  | .b0, .ix, d => .set_0_atIXd d
  | .b1, .ix, d => .set_1_atIXd d
  | .b2, .ix, d => .set_2_atIXd d
  | .b3, .ix, d => .set_3_atIXd d
  | .b4, .ix, d => .set_4_atIXd d
  | .b5, .ix, d => .set_5_atIXd d
  | .b6, .ix, d => .set_6_atIXd d
  | .b7, .ix, d => .set_7_atIXd d
  | .b0, .iy, d => .set_0_atIYd d
  | .b1, .iy, d => .set_1_atIYd d
  | .b2, .iy, d => .set_2_atIYd d
  | .b3, .iy, d => .set_3_atIYd d
  | .b4, .iy, d => .set_4_atIYd d
  | .b5, .iy, d => .set_5_atIYd d
  | .b6, .iy, d => .set_6_atIYd d
  | .b7, .iy, d => .set_7_atIYd d

/-- JP f,mn (R502). -/
def Form.jpF : Cond → Word → Instr
  | .nz, mn => .jp_NZ_mn mn
  | .z, mn => .jp_Z_mn mn
  | .nc, mn => .jp_NC_mn mn
  | .c, mn => .jp_C_mn mn
  | .lz, mn => .jp_LZ_mn mn
  | .lo, mn => .jp_LO_mn mn
  | .p, mn => .jp_P_mn mn
  | .m, mn => .jp_M_mn mn

/-- JP (IX) (R504, R505). -/
def Form.jpIdx : Idx → Instr
  | .ix => .jp_atIX
  | .iy => .jp_atIY

/-- JR cc,e (R507). -/
def Form.jrCc : Cc → Byte → Instr
  | .nz, k => .jr_NZ_e k
  | .z, k => .jr_Z_e k
  | .nc, k => .jr_NC_e k
  | .c, k => .jr_C_e k

/-- RET f (R511). -/
def Form.retF : Cond → Instr
  | .nz => .ret_NZ
  | .z => .ret_Z
  | .nc => .ret_NC
  | .c => .ret_C
  | .lz => .ret_LZ
  | .lo => .ret_LO
  | .p => .ret_P
  | .m => .ret_M

/-- RST v (R515). -/
def Form.rst : Rst → Instr
  | .v10 => .rst_10
  | .v18 => .rst_18
  | .v20 => .rst_20
  | .v28 => .rst_28
  | .v38 => .rst_38

end Sys2Proof
end

