-- ==== Sys2Proof/Config.lean ====
section
/-! DEFINITION. What an implementation fixes (the chip variant), the I/O accesses the environment sees, and the values
the spec leaves open, as constants without a body: no proof can see what they are. -/

namespace Sys2Proof

/-- The chip (00_scope.md R2). -/
inductive Variant
  | r2000 | r3000 | r3000a
deriving DecidableEq, Repr

/-- The two I/O spaces (10_state.md R49): internal under IOI, external under IOE. -/
inductive IoSpace
  | internal | external
deriving DecidableEq, Repr

/-- One byte access to an I/O space, as the outside sees it (70_reset_and_hazards.md R708: space, address, direction,
value). An internal address is `a[7:0]` with eight zero bits above it (20_memory.md R101). -/
inductive IoEvent
  | read (space : IoSpace) (addr : Word) (value : Byte)
  | write (space : IoSpace) (addr : Word) (value : Byte)
deriving DecidableEq, Repr

/-- What a byte of physical memory that nothing has written reads as, by its address: an unconstrained value
(70_reset_and_hazards.md R682). DESIGN CHOICE, safe: log 3. -/
opaque Config.uninitByte : Nat → Byte

/-- The four bits of F that are not S, Z, L/V, C after the `n`-th flag write: a fresh unconstrained value each time
(10_state.md R37). DESIGN CHOICE, safe: log 8. -/
opaque Config.flagBits : Nat → BitVec 4

/-- The byte an I/O read answers: the platform's device function, of the accesses so far, the space and the address
(20_memory.md R101, R102, R107). DESIGN CHOICE, safe: log 9. -/
opaque Config.ioRead : List IoEvent → IoSpace → Word → Byte

/-- Whether a byte written to EDMR enables System/User mode; EDMR's fields are not in the source (10_state.md R47).
DESIGN CHOICE, safe: log 6. -/
opaque Config.edmrEnables : Byte → Bool

/-- Whether a byte written to the control of external I/O inhibits external writes; that control is not in the source
(20_memory.md R103). DESIGN CHOICE, safe: log 6. -/
opaque Config.extInhibits : Byte → Bool

end Sys2Proof
end

