-- ==== Sys2Proof/WellFormed.lean ====
section
/-! DEFINITION. Which instructions a chip has (00_scope.md R3, 70_reset_and_hazards.md R707). Every operand of every
instruction ranges over all its bytes, so this is the only well-formedness condition. -/

namespace Sys2Proof

/-- Whether a chip has the Rabbit 3000A's additions (00_scope.md R2). -/
def Variant.has3000A : Variant → Bool
  | .r2000 => false
  | .r3000 => false
  | .r3000a => true

/-- Whether an instruction exists on a chip. The R3000A-only ones are those of R3; byte 5B is IDET there and LD E,E
elsewhere (R201, R580). -/
def Instr.existsOn (v : Variant) : Instr → Bool
  | .ld_B_B => true
  | .ld_B_C => true
  | .ld_B_D => true
  | .ld_B_E => true
  | .ld_B_H => true
  | .ld_B_L => true
  | .ld_B_A => true
  | .ld_C_B => true
  | .ld_C_C => true
  | .ld_C_D => true
  | .ld_C_E => true
  | .ld_C_H => true
  | .ld_C_L => true
  | .ld_C_A => true
  | .ld_D_B => true
  | .ld_D_C => true
  | .ld_D_D => true
  | .ld_D_E => true
  | .ld_D_H => true
  | .ld_D_L => true
  | .ld_D_A => true
  | .ld_E_B => true
  | .ld_E_C => true
  | .ld_E_D => true
  | .ld_E_E => !v.has3000A
  | .ld_E_H => true
  | .ld_E_L => true
  | .ld_E_A => true
  | .ld_H_B => true
  | .ld_H_C => true
  | .ld_H_D => true
  | .ld_H_E => true
  | .ld_H_H => true
  | .ld_H_L => true
  | .ld_H_A => true
  | .ld_L_B => true
  | .ld_L_C => true
  | .ld_L_D => true
  | .ld_L_E => true
  | .ld_L_H => true
  | .ld_L_L => true
  | .ld_L_A => true
  | .ld_A_B => true
  | .ld_A_C => true
  | .ld_A_D => true
  | .ld_A_E => true
  | .ld_A_H => true
  | .ld_A_L => true
  | .ld_A_A => true
  | .ld_B_n _ => true
  | .ld_C_n _ => true
  | .ld_D_n _ => true
  | .ld_E_n _ => true
  | .ld_H_n _ => true
  | .ld_L_n _ => true
  | .ld_A_n _ => true
  | .ld_B_atHL => true
  | .ld_C_atHL => true
  | .ld_D_atHL => true
  | .ld_E_atHL => true
  | .ld_H_atHL => true
  | .ld_L_atHL => true
  | .ld_A_atHL => true
  | .ld_B_atIXd _ => true
  | .ld_C_atIXd _ => true
  | .ld_D_atIXd _ => true
  | .ld_E_atIXd _ => true
  | .ld_H_atIXd _ => true
  | .ld_L_atIXd _ => true
  | .ld_A_atIXd _ => true
  | .ld_B_atIYd _ => true
  | .ld_C_atIYd _ => true
  | .ld_D_atIYd _ => true
  | .ld_E_atIYd _ => true
  | .ld_H_atIYd _ => true
  | .ld_L_atIYd _ => true
  | .ld_A_atIYd _ => true
  | .ld_atHL_B => true
  | .ld_atHL_C => true
  | .ld_atHL_D => true
  | .ld_atHL_E => true
  | .ld_atHL_H => true
  | .ld_atHL_L => true
  | .ld_atHL_A => true
  | .ld_atHL_n _ => true
  | .ld_atIXd_B _ => true
  | .ld_atIXd_C _ => true
  | .ld_atIXd_D _ => true
  | .ld_atIXd_E _ => true
  | .ld_atIXd_H _ => true
  | .ld_atIXd_L _ => true
  | .ld_atIXd_A _ => true
  | .ld_atIXd_n _ _ => true
  | .ld_atIYd_B _ => true
  | .ld_atIYd_C _ => true
  | .ld_atIYd_D _ => true
  | .ld_atIYd_E _ => true
  | .ld_atIYd_H _ => true
  | .ld_atIYd_L _ => true
  | .ld_atIYd_A _ => true
  | .ld_atIYd_n _ _ => true
  | .ld_A_atBC => true
  | .ld_A_atDE => true
  | .ld_A_atMn _ => true
  | .ld_atBC_A => true
  | .ld_atDE_A => true
  | .ld_atMn_A _ => true
  | .ld_A_EIR => true
  | .ld_A_IIR => true
  | .ld_EIR_A => true
  | .ld_IIR_A => true
  | .ld_A_XPC => true
  | .ld_XPC_A => true
  | .ld_BC_mn _ => true
  | .ld_DE_mn _ => true
  | .ld_HL_mn _ => true
  | .ld_SP_mn _ => true
  | .ld_IX_mn _ => true
  | .ld_IY_mn _ => true
  | .ld_HL_atMn _ => true
  | .ld_BC_atMn _ => true
  | .ld_DE_atMn _ => true
  | .ld_HL_atMn_ed _ => true
  | .ld_SP_atMn _ => true
  | .ld_IX_atMn _ => true
  | .ld_IY_atMn _ => true
  | .ld_atMn_HL _ => true
  | .ld_atMn_BC _ => true
  | .ld_atMn_DE _ => true
  | .ld_atMn_HL_ed _ => true
  | .ld_atMn_SP _ => true
  | .ld_atMn_IX _ => true
  | .ld_atMn_IY _ => true
  | .ld_HL_atHLd _ => true
  | .ld_HL_atIXd _ => true
  | .ld_HL_atIYd _ => true
  | .ld_atHLd_HL _ => true
  | .ld_atIXd_HL _ => true
  | .ld_atIYd_HL _ => true
  | .ld_HL_atSPn _ => true
  | .ld_IX_atSPn _ => true
  | .ld_IY_atSPn _ => true
  | .ld_atSPn_HL _ => true
  | .ld_atSPn_IX _ => true
  | .ld_atSPn_IY _ => true
  | .ld_HL_IX => true
  | .ld_HL_IY => true
  | .ld_IX_HL => true
  | .ld_IY_HL => true
  | .ld_SP_HL => true
  | .ld_SP_IX => true
  | .ld_SP_IY => true
  | .ld_BC'_BC => true
  | .ld_DE'_BC => true
  | .ld_HL'_BC => true
  | .ld_BC'_DE => true
  | .ld_DE'_DE => true
  | .ld_HL'_DE => true
  | .ldp_atHL_HL => true
  | .ldp_atIX_HL => true
  | .ldp_atIY_HL => true
  | .ldp_atMn_HL _ => true
  | .ldp_atMn_IX _ => true
  | .ldp_atMn_IY _ => true
  | .ldp_HL_atHL => true
  | .ldp_HL_atIX => true
  | .ldp_HL_atIY => true
  | .ldp_HL_atMn _ => true
  | .ldp_IX_atMn _ => true
  | .ldp_IY_atMn _ => true
  | .push_BC => true
  | .push_DE => true
  | .push_HL => true
  | .push_AF => true
  | .push_IX => true
  | .push_IY => true
  | .push_IP => true
  | .push_SU => v.has3000A
  | .pop_BC => true
  | .pop_DE => true
  | .pop_HL => true
  | .pop_AF => true
  | .pop_IX => true
  | .pop_IY => true
  | .pop_IP => true
  | .pop_SU => v.has3000A
  | .ex_AF_AF' => true
  | .exx => true
  | .ex_DE_HL => true
  | .ex_DE'_HL => true
  | .ex_atSP_HL => true
  | .ex_atSP_IX => true
  | .ex_atSP_IY => true
  | .add_A_B => true
  | .add_A_C => true
  | .add_A_D => true
  | .add_A_E => true
  | .add_A_H => true
  | .add_A_L => true
  | .add_A_A => true
  | .add_A_n _ => true
  | .add_A_atHL => true
  | .add_A_atIXd _ => true
  | .add_A_atIYd _ => true
  | .adc_A_B => true
  | .adc_A_C => true
  | .adc_A_D => true
  | .adc_A_E => true
  | .adc_A_H => true
  | .adc_A_L => true
  | .adc_A_A => true
  | .adc_A_n _ => true
  | .adc_A_atHL => true
  | .adc_A_atIXd _ => true
  | .adc_A_atIYd _ => true
  | .sub_B => true
  | .sub_C => true
  | .sub_D => true
  | .sub_E => true
  | .sub_H => true
  | .sub_L => true
  | .sub_A => true
  | .sub_n _ => true
  | .sub_atHL => true
  | .sub_atIXd _ => true
  | .sub_atIYd _ => true
  | .sbc_A_B => true
  | .sbc_A_C => true
  | .sbc_A_D => true
  | .sbc_A_E => true
  | .sbc_A_H => true
  | .sbc_A_L => true
  | .sbc_A_A => true
  | .sbc_A_n _ => true
  | .sbc_A_atHL => true
  | .sbc_A_atIXd _ => true
  | .sbc_A_atIYd _ => true
  | .and_B => true
  | .and_C => true
  | .and_D => true
  | .and_E => true
  | .and_H => true
  | .and_L => true
  | .and_A => true
  | .and_n _ => true
  | .and_atHL => true
  | .and_atIXd _ => true
  | .and_atIYd _ => true
  | .or_B => true
  | .or_C => true
  | .or_D => true
  | .or_E => true
  | .or_H => true
  | .or_L => true
  | .or_A => true
  | .or_n _ => true
  | .or_atHL => true
  | .or_atIXd _ => true
  | .or_atIYd _ => true
  | .xor_B => true
  | .xor_C => true
  | .xor_D => true
  | .xor_E => true
  | .xor_H => true
  | .xor_L => true
  | .xor_A => true
  | .xor_n _ => true
  | .xor_atHL => true
  | .xor_atIXd _ => true
  | .xor_atIYd _ => true
  | .cp_B => true
  | .cp_C => true
  | .cp_D => true
  | .cp_E => true
  | .cp_H => true
  | .cp_L => true
  | .cp_A => true
  | .cp_n _ => true
  | .cp_atHL => true
  | .cp_atIXd _ => true
  | .cp_atIYd _ => true
  | .inc_B => true
  | .inc_C => true
  | .inc_D => true
  | .inc_E => true
  | .inc_H => true
  | .inc_L => true
  | .inc_A => true
  | .inc_atHL => true
  | .inc_atIXd _ => true
  | .inc_atIYd _ => true
  | .dec_B => true
  | .dec_C => true
  | .dec_D => true
  | .dec_E => true
  | .dec_H => true
  | .dec_L => true
  | .dec_A => true
  | .dec_atHL => true
  | .dec_atIXd _ => true
  | .dec_atIYd _ => true
  | .neg => true
  | .cpl => true
  | .ccf => true
  | .scf => true
  | .add_HL_BC => true
  | .add_HL_DE => true
  | .add_HL_HL => true
  | .add_HL_SP => true
  | .add_IX_BC => true
  | .add_IX_DE => true
  | .add_IX_IX => true
  | .add_IX_SP => true
  | .add_IY_BC => true
  | .add_IY_DE => true
  | .add_IY_IY => true
  | .add_IY_SP => true
  | .add_SP_d _ => true
  | .adc_HL_BC => true
  | .adc_HL_DE => true
  | .adc_HL_HL => true
  | .adc_HL_SP => true
  | .sbc_HL_BC => true
  | .sbc_HL_DE => true
  | .sbc_HL_HL => true
  | .sbc_HL_SP => true
  | .and_HL_DE => true
  | .and_IX_DE => true
  | .and_IY_DE => true
  | .or_HL_DE => true
  | .or_IX_DE => true
  | .or_IY_DE => true
  | .bool_HL => true
  | .bool_IX => true
  | .bool_IY => true
  | .inc_BC => true
  | .inc_DE => true
  | .inc_HL => true
  | .inc_SP => true
  | .inc_IX => true
  | .inc_IY => true
  | .dec_BC => true
  | .dec_DE => true
  | .dec_HL => true
  | .dec_SP => true
  | .dec_IX => true
  | .dec_IY => true
  | .mul => true
  | .rlca => true
  | .rla => true
  | .rrca => true
  | .rra => true
  | .rlc_B => true
  | .rlc_C => true
  | .rlc_D => true
  | .rlc_E => true
  | .rlc_H => true
  | .rlc_L => true
  | .rlc_A => true
  | .rlc_atHL => true
  | .rlc_atIXd _ => true
  | .rlc_atIYd _ => true
  | .rl_B => true
  | .rl_C => true
  | .rl_D => true
  | .rl_E => true
  | .rl_H => true
  | .rl_L => true
  | .rl_A => true
  | .rl_atHL => true
  | .rl_atIXd _ => true
  | .rl_atIYd _ => true
  | .rrc_B => true
  | .rrc_C => true
  | .rrc_D => true
  | .rrc_E => true
  | .rrc_H => true
  | .rrc_L => true
  | .rrc_A => true
  | .rrc_atHL => true
  | .rrc_atIXd _ => true
  | .rrc_atIYd _ => true
  | .rr_B => true
  | .rr_C => true
  | .rr_D => true
  | .rr_E => true
  | .rr_H => true
  | .rr_L => true
  | .rr_A => true
  | .rr_atHL => true
  | .rr_atIXd _ => true
  | .rr_atIYd _ => true
  | .sla_B => true
  | .sla_C => true
  | .sla_D => true
  | .sla_E => true
  | .sla_H => true
  | .sla_L => true
  | .sla_A => true
  | .sla_atHL => true
  | .sla_atIXd _ => true
  | .sla_atIYd _ => true
  | .sra_B => true
  | .sra_C => true
  | .sra_D => true
  | .sra_E => true
  | .sra_H => true
  | .sra_L => true
  | .sra_A => true
  | .sra_atHL => true
  | .sra_atIXd _ => true
  | .sra_atIYd _ => true
  | .srl_B => true
  | .srl_C => true
  | .srl_D => true
  | .srl_E => true
  | .srl_H => true
  | .srl_L => true
  | .srl_A => true
  | .srl_atHL => true
  | .srl_atIXd _ => true
  | .srl_atIYd _ => true
  | .rl_DE => true
  | .rr_DE => true
  | .rr_HL => true
  | .rr_IX => true
  | .rr_IY => true
  | .bit_0_B => true
  | .bit_0_C => true
  | .bit_0_D => true
  | .bit_0_E => true
  | .bit_0_H => true
  | .bit_0_L => true
  | .bit_0_A => true
  | .bit_1_B => true
  | .bit_1_C => true
  | .bit_1_D => true
  | .bit_1_E => true
  | .bit_1_H => true
  | .bit_1_L => true
  | .bit_1_A => true
  | .bit_2_B => true
  | .bit_2_C => true
  | .bit_2_D => true
  | .bit_2_E => true
  | .bit_2_H => true
  | .bit_2_L => true
  | .bit_2_A => true
  | .bit_3_B => true
  | .bit_3_C => true
  | .bit_3_D => true
  | .bit_3_E => true
  | .bit_3_H => true
  | .bit_3_L => true
  | .bit_3_A => true
  | .bit_4_B => true
  | .bit_4_C => true
  | .bit_4_D => true
  | .bit_4_E => true
  | .bit_4_H => true
  | .bit_4_L => true
  | .bit_4_A => true
  | .bit_5_B => true
  | .bit_5_C => true
  | .bit_5_D => true
  | .bit_5_E => true
  | .bit_5_H => true
  | .bit_5_L => true
  | .bit_5_A => true
  | .bit_6_B => true
  | .bit_6_C => true
  | .bit_6_D => true
  | .bit_6_E => true
  | .bit_6_H => true
  | .bit_6_L => true
  | .bit_6_A => true
  | .bit_7_B => true
  | .bit_7_C => true
  | .bit_7_D => true
  | .bit_7_E => true
  | .bit_7_H => true
  | .bit_7_L => true
  | .bit_7_A => true
  | .bit_0_atHL => true
  | .bit_1_atHL => true
  | .bit_2_atHL => true
  | .bit_3_atHL => true
  | .bit_4_atHL => true
  | .bit_5_atHL => true
  | .bit_6_atHL => true
  | .bit_7_atHL => true
  | .bit_0_atIXd _ => true
  | .bit_1_atIXd _ => true
  | .bit_2_atIXd _ => true
  | .bit_3_atIXd _ => true
  | .bit_4_atIXd _ => true
  | .bit_5_atIXd _ => true
  | .bit_6_atIXd _ => true
  | .bit_7_atIXd _ => true
  | .bit_0_atIYd _ => true
  | .bit_1_atIYd _ => true
  | .bit_2_atIYd _ => true
  | .bit_3_atIYd _ => true
  | .bit_4_atIYd _ => true
  | .bit_5_atIYd _ => true
  | .bit_6_atIYd _ => true
  | .bit_7_atIYd _ => true
  | .res_0_B => true
  | .res_0_C => true
  | .res_0_D => true
  | .res_0_E => true
  | .res_0_H => true
  | .res_0_L => true
  | .res_0_A => true
  | .res_1_B => true
  | .res_1_C => true
  | .res_1_D => true
  | .res_1_E => true
  | .res_1_H => true
  | .res_1_L => true
  | .res_1_A => true
  | .res_2_B => true
  | .res_2_C => true
  | .res_2_D => true
  | .res_2_E => true
  | .res_2_H => true
  | .res_2_L => true
  | .res_2_A => true
  | .res_3_B => true
  | .res_3_C => true
  | .res_3_D => true
  | .res_3_E => true
  | .res_3_H => true
  | .res_3_L => true
  | .res_3_A => true
  | .res_4_B => true
  | .res_4_C => true
  | .res_4_D => true
  | .res_4_E => true
  | .res_4_H => true
  | .res_4_L => true
  | .res_4_A => true
  | .res_5_B => true
  | .res_5_C => true
  | .res_5_D => true
  | .res_5_E => true
  | .res_5_H => true
  | .res_5_L => true
  | .res_5_A => true
  | .res_6_B => true
  | .res_6_C => true
  | .res_6_D => true
  | .res_6_E => true
  | .res_6_H => true
  | .res_6_L => true
  | .res_6_A => true
  | .res_7_B => true
  | .res_7_C => true
  | .res_7_D => true
  | .res_7_E => true
  | .res_7_H => true
  | .res_7_L => true
  | .res_7_A => true
  | .res_0_atHL => true
  | .res_1_atHL => true
  | .res_2_atHL => true
  | .res_3_atHL => true
  | .res_4_atHL => true
  | .res_5_atHL => true
  | .res_6_atHL => true
  | .res_7_atHL => true
  | .res_0_atIXd _ => true
  | .res_1_atIXd _ => true
  | .res_2_atIXd _ => true
  | .res_3_atIXd _ => true
  | .res_4_atIXd _ => true
  | .res_5_atIXd _ => true
  | .res_6_atIXd _ => true
  | .res_7_atIXd _ => true
  | .res_0_atIYd _ => true
  | .res_1_atIYd _ => true
  | .res_2_atIYd _ => true
  | .res_3_atIYd _ => true
  | .res_4_atIYd _ => true
  | .res_5_atIYd _ => true
  | .res_6_atIYd _ => true
  | .res_7_atIYd _ => true
  | .set_0_B => true
  | .set_0_C => true
  | .set_0_D => true
  | .set_0_E => true
  | .set_0_H => true
  | .set_0_L => true
  | .set_0_A => true
  | .set_1_B => true
  | .set_1_C => true
  | .set_1_D => true
  | .set_1_E => true
  | .set_1_H => true
  | .set_1_L => true
  | .set_1_A => true
  | .set_2_B => true
  | .set_2_C => true
  | .set_2_D => true
  | .set_2_E => true
  | .set_2_H => true
  | .set_2_L => true
  | .set_2_A => true
  | .set_3_B => true
  | .set_3_C => true
  | .set_3_D => true
  | .set_3_E => true
  | .set_3_H => true
  | .set_3_L => true
  | .set_3_A => true
  | .set_4_B => true
  | .set_4_C => true
  | .set_4_D => true
  | .set_4_E => true
  | .set_4_H => true
  | .set_4_L => true
  | .set_4_A => true
  | .set_5_B => true
  | .set_5_C => true
  | .set_5_D => true
  | .set_5_E => true
  | .set_5_H => true
  | .set_5_L => true
  | .set_5_A => true
  | .set_6_B => true
  | .set_6_C => true
  | .set_6_D => true
  | .set_6_E => true
  | .set_6_H => true
  | .set_6_L => true
  | .set_6_A => true
  | .set_7_B => true
  | .set_7_C => true
  | .set_7_D => true
  | .set_7_E => true
  | .set_7_H => true
  | .set_7_L => true
  | .set_7_A => true
  | .set_0_atHL => true
  | .set_1_atHL => true
  | .set_2_atHL => true
  | .set_3_atHL => true
  | .set_4_atHL => true
  | .set_5_atHL => true
  | .set_6_atHL => true
  | .set_7_atHL => true
  | .set_0_atIXd _ => true
  | .set_1_atIXd _ => true
  | .set_2_atIXd _ => true
  | .set_3_atIXd _ => true
  | .set_4_atIXd _ => true
  | .set_5_atIXd _ => true
  | .set_6_atIXd _ => true
  | .set_7_atIXd _ => true
  | .set_0_atIYd _ => true
  | .set_1_atIYd _ => true
  | .set_2_atIYd _ => true
  | .set_3_atIYd _ => true
  | .set_4_atIYd _ => true
  | .set_5_atIYd _ => true
  | .set_6_atIYd _ => true
  | .set_7_atIYd _ => true
  | .jp_mn _ => true
  | .jp_NZ_mn _ => true
  | .jp_Z_mn _ => true
  | .jp_NC_mn _ => true
  | .jp_C_mn _ => true
  | .jp_LZ_mn _ => true
  | .jp_LO_mn _ => true
  | .jp_P_mn _ => true
  | .jp_M_mn _ => true
  | .jp_atHL => true
  | .jp_atIX => true
  | .jp_atIY => true
  | .jr_e _ => true
  | .jr_NZ_e _ => true
  | .jr_Z_e _ => true
  | .jr_NC_e _ => true
  | .jr_C_e _ => true
  | .djnz_e _ => true
  | .call_mn _ => true
  | .ret => true
  | .ret_NZ => true
  | .ret_Z => true
  | .ret_NC => true
  | .ret_C => true
  | .ret_LZ => true
  | .ret_LO => true
  | .ret_P => true
  | .ret_M => true
  | .lcall_x_mn _ _ => true
  | .ljp_x_mn _ _ => true
  | .lret => true
  | .rst_10 => true
  | .rst_18 => true
  | .rst_20 => true
  | .rst_28 => true
  | .rst_38 => true
  | .ldi => true
  | .ldd => true
  | .ldir => true
  | .lddr => true
  | .ldisr => v.has3000A
  | .lddsr => v.has3000A
  | .lsir => v.has3000A
  | .lsdr => v.has3000A
  | .lsidr => v.has3000A
  | .lsddr => v.has3000A
  | .uma => v.has3000A
  | .ums => v.has3000A
  | .nop => true
  | .altd => true
  | .ioi => true
  | .ioe => true
  | .ipset_0 => true
  | .ipset_1 => true
  | .ipset_2 => true
  | .ipset_3 => true
  | .ipres => true
  | .reti => true
  | .idet => v.has3000A
  | .rdmode => v.has3000A
  | .setusr => v.has3000A
  | .sures => v.has3000A
  | .syscall => v.has3000A

end Sys2Proof
end

