-- ==== Sys2Proof/Decode.lean ====
section
/-! DEFINITION. The decoder, total on any bytes (30_encoding.md R120-R136), and the encoder. -/

namespace Sys2Proof

open Machine

/-- Why bytes are not decoded. -/
inductive DecodeError
  /-- The page has no instruction at these bytes, or the chip does not have it (30_encoding.md R135). -/
  | undefinedOpcode (bytes : List Byte)
  /-- The bytes end inside an instruction. -/
  | truncated
deriving DecidableEq, Repr

/-- An instruction and the bytes behind it, or an error. -/
abbrev Decoded := Except DecodeError (Instr × List Byte)

/-! ## Operand bytes (30_encoding.md R121, R123) -/

/-- One operand byte. -/
def operand1 (f : Byte → Instr) : List Byte → Decoded
  | a :: t => .ok (f a, t)
  | [] => .error .truncated

/-- Two operand bytes. -/
def operand2 (f : Byte → Byte → Instr) : List Byte → Decoded
  | a :: b :: t => .ok (f a b, t)
  | _ => .error .truncated

/-- Three operand bytes. -/
def operand3 (f : Byte → Byte → Byte → Instr) : List Byte → Decoded
  | a :: b :: c :: t => .ok (f a b c, t)
  | _ => .error .truncated

/-- A 16-bit constant, low byte first: `mn = {m, n}`. -/
def operandMn (f : Word → Instr) : List Byte → Decoded := operand2 (fun n m => f (mkWord m n))

/-- An instruction without operand bytes. -/
def plain (i : Instr) (t : List Byte) : Decoded := .ok (i, t)

/-- An instruction only the Rabbit 3000A has (00_scope.md R3). -/
def only3000A (v : Variant) (i : Instr) (bytes t : List Byte) : Decoded :=
  if v.has3000A then .ok (i, t) else .error (.undefinedOpcode bytes)

/-- The form of a register field, or the form of 110. -/
def regOr (z : Nat) (f : Reg8 → Decoded) (other : Decoded) : Decoded :=
  match Reg8.ofField z with
  | some r => f r
  | none => other

/-! ## The pages -/

/-- The CB page (30_encoding.md R131). -/
def decodeCB (op : Byte) (t : List Byte) : Decoded :=
  let y := op.toNat / 8 % 8
  let z := op.toNat % 8
  let b := BitNo.ofField y
  match op.toNat / 64 with
  | 0 =>
    match RotOp.ofField y with
    | some o => regOr z (fun r => plain (Form.rotR o r) t) (plain (Form.rotAtHL o) t)
    | none => .error (.undefinedOpcode [0xCB, op])
  | 1 => regOr z (fun r => plain (Form.bitR b r) t) (plain (Form.bitAtHL b) t)
  | 2 => regOr z (fun r => plain (Form.resR b r) t) (plain (Form.resAtHL b) t)
  | _ => regOr z (fun r => plain (Form.setR b r) t) (plain (Form.setAtHL b) t)

/-- The page byte of an index register (30_encoding.md R121). -/
def pageByte : Idx → Byte
  | .ix => 0xDD | .iy => 0xFD

/-- The DD CB and FD CB pages: `d`, then the opcode byte, whose low three bits are 110 (30_encoding.md R134). -/
def decodeIdxCB (x : Idx) (d op : Byte) (t : List Byte) : Decoded :=
  let y := op.toNat / 8 % 8
  let b := BitNo.ofField y
  let bad : Decoded := .error (.undefinedOpcode [pageByte x, 0xCB, d, op])
  if op.toNat % 8 = 6 then
    match op.toNat / 64 with
    | 0 =>
      match RotOp.ofField y with
      | some o => plain (Form.rotAtIdx o x d) t
      | none => bad
    | 1 => plain (Form.bitAtIdx b x d) t
    | 2 => plain (Form.resAtIdx b x d) t
    | _ => plain (Form.setAtIdx b x d) t
  else bad

/-- `DD E4 d` and `FD E4 d`: LD HL,(HL+d) and LD HL,(IY+d) (30_encoding.md R129, R133). -/
def pageE4 : Idx → Byte → Instr
  | .ix, d => .ld_HL_atHLd d
  | .iy, d => Form.ldHLAtIdx .iy d

/-- `DD F4 d` and `FD F4 d`: LD (HL+d),HL and LD (IY+d),HL (30_encoding.md R129, R133). -/
def pageF4 : Idx → Byte → Instr
  | .ix, d => .ld_atHLd_HL d
  | .iy, d => Form.ldAtIdxHL .iy d

/-- The DD and FD pages below 40 and from C0 on: single positions (30_encoding.md R133). -/
def decodeIdxOne (x : Idx) (op : Byte) (t : List Byte) : Decoded :=
  match op.toNat with
  | 0x09 => plain (Form.addIdx x .bc) t
  | 0x19 => plain (Form.addIdx x .de) t
  | 0x29 => plain (Form.addIdx x .self) t
  | 0x39 => plain (Form.addIdx x .sp) t
  | 0x21 => operandMn (Form.ldIdxMn x) t
  | 0x22 => operandMn (Form.ldAtMnIdx x) t
  | 0x23 => plain (Form.incIdx x) t
  | 0x2A => operandMn (Form.ldIdxAtMn x) t
  | 0x2B => plain (Form.decIdx x) t
  | 0x34 => operand1 (Form.incAtIdx x) t
  | 0x35 => operand1 (Form.decAtIdx x) t
  | 0x36 => operand2 (Form.ldAtIdxN x) t
  | 0x64 => plain (Form.ldpAtIdxHL x) t
  | 0x65 => operandMn (Form.ldpAtMnIdx x) t
  | 0x6C => plain (Form.ldpHLAtIdx x) t
  | 0x6D => operandMn (Form.ldpIdxAtMn x) t
  | 0x7C => plain (Form.ldHLIdx x) t
  | 0x7D => plain (Form.ldIdxHL x) t
  | 0xC4 => operand1 (Form.ldIdxAtSP x) t
  | 0xCC => plain (Form.boolIdx x) t
  | 0xD4 => operand1 (Form.ldAtSPIdx x) t
  | 0xDC => plain (Form.andIdxDE x) t
  | 0xE1 => plain (Form.popIdx x) t
  | 0xE3 => plain (Form.exAtSPIdx x) t
  | 0xE4 => operand1 (pageE4 x) t
  | 0xE5 => plain (Form.pushIdx x) t
  | 0xE9 => plain (Form.jpIdx x) t
  | 0xEC => plain (Form.orIdxDE x) t
  | 0xF4 => operand1 (pageF4 x) t
  | 0xF9 => plain (Form.ldSPIdx x) t
  | 0xFC => plain (Form.rrIdx x) t
  | _ => .error (.undefinedOpcode [pageByte x, op])

/-- The DD and FD pages (30_encoding.md R133): the columns of loads, stores and arithmetic on (IX+d), the CB page
below, and the single positions. -/
def decodeIdx (x : Idx) (op : Byte) (t : List Byte) : Decoded :=
  let y := op.toNat / 8 % 8
  let z := op.toNat % 8
  if op.toNat = 0xCB then
    match t with
    | d :: op' :: t' => decodeIdxCB x d op' t'
    | _ => .error .truncated
  else if op.toNat / 64 = 2 ∧ z = 6 then operand1 (Form.aluAtIdx (AluOp.ofField y) x) t
  else if op.toNat / 64 = 1 ∧ z = 6 then
    regOr y (fun r => operand1 (Form.ldRAtIdx x r) t) (.error (.undefinedOpcode [pageByte x, op]))
  else if op.toNat / 8 = 14 then
    regOr z (fun r => operand1 (Form.ldAtIdxR x r) t) (.error (.undefinedOpcode [pageByte x, op]))
  else decodeIdxOne x op t

/-- The ED page (30_encoding.md R132). -/
def decodeED (v : Variant) (op : Byte) (t : List Byte) : Decoded :=
  let q := Dd.ofField (op.toNat / 16 % 4)
  let new (i : Instr) : Decoded := only3000A v i [0xED, op] t
  match op.toNat with
  | 0x41 => plain (Form.ldAltDE .bc) t
  | 0x51 => plain (Form.ldAltDE .de) t
  | 0x61 => plain (Form.ldAltDE .hl) t
  | 0x49 => plain (Form.ldAltBC .bc) t
  | 0x59 => plain (Form.ldAltBC .de) t
  | 0x69 => plain (Form.ldAltBC .hl) t
  | 0x42 | 0x52 | 0x62 | 0x72 => plain (Form.sbcHLSs q) t
  | 0x4A | 0x5A | 0x6A | 0x7A => plain (Form.adcHLSs q) t
  | 0x43 | 0x53 | 0x63 | 0x73 => operandMn (Form.ldAtMnSs q) t
  | 0x4B | 0x5B | 0x6B | 0x7B => operandMn (Form.ldDdAtMn q) t
  | 0x44 => plain .neg t
  | 0x45 => plain .lret t
  | 0x46 => plain .ipset_0 t
  | 0x47 => plain .ld_EIR_A t
  | 0x4D => plain .reti t
  | 0x4E => plain .ipset_2 t
  | 0x4F => plain .ld_IIR_A t
  | 0x54 => plain .ex_atSP_HL t
  | 0x56 => plain .ipset_1 t
  | 0x57 => plain .ld_A_EIR t
  | 0x5D => plain .ipres t
  | 0x5E => plain .ipset_3 t
  | 0x5F => plain .ld_A_IIR t
  | 0x64 => plain .ldp_atHL_HL t
  | 0x65 => operandMn .ldp_atMn_HL t
  | 0x66 => new .push_SU
  | 0x67 => plain .ld_XPC_A t
  | 0x6C => plain .ldp_HL_atHL t
  | 0x6D => operandMn .ldp_HL_atMn t
  | 0x6E => new .pop_SU
  | 0x6F => new .setusr
  | 0x75 => new .syscall
  | 0x76 => plain .push_IP t
  | 0x77 => plain .ld_A_XPC t
  | 0x7D => new .sures
  | 0x7E => plain .pop_IP t
  | 0x7F => new .rdmode
  | 0x90 => new .ldisr
  | 0x98 => new .lddsr
  | 0xA0 => plain .ldi t
  | 0xA8 => plain .ldd t
  | 0xB0 => plain .ldir t
  | 0xB8 => plain .lddr t
  | 0xC0 => new .uma
  | 0xC8 => new .ums
  | 0xD0 => new .lsidr
  | 0xD8 => new .lsddr
  | 0xF0 => new .lsir
  | 0xF8 => new .lsdr
  | _ => .error (.undefinedOpcode [0xED, op])

/-- Rows 0 to 3 of the main page (30_encoding.md R122, R130), by bits 5..3 and 2..0. -/
def decodeRow0 (y z : Nat) (t : List Byte) : Decoded :=
  let p := Dd.ofField (y / 2)
  match z with
  | 0 =>
    match y with
    | 0 => plain .nop t
    | 1 => plain .ex_AF_AF' t
    | 2 => operand1 .djnz_e t
    | 3 => operand1 .jr_e t
    | _ => operand1 (Form.jrCc (Cc.ofField (y - 4))) t
  | 1 => if y % 2 = 0 then operandMn (Form.ldDdMn p) t else plain (Form.addHLSs p) t
  | 2 =>
    match y with
    | 0 => plain .ld_atBC_A t
    | 1 => plain .ld_A_atBC t
    | 2 => plain .ld_atDE_A t
    | 3 => plain .ld_A_atDE t
    | 4 => operandMn .ld_atMn_HL t
    | 5 => operandMn .ld_HL_atMn t
    | 6 => operandMn .ld_atMn_A t
    | _ => operandMn .ld_A_atMn t
  | 3 => if y % 2 = 0 then plain (Form.incSs p) t else plain (Form.decSs p) t
  | 4 => regOr y (fun r => plain (Form.incR r) t) (plain .inc_atHL t)
  | 5 => regOr y (fun r => plain (Form.decR r) t) (plain .dec_atHL t)
  | 6 => regOr y (fun r => operand1 (Form.ldRN r) t) (operand1 .ld_atHL_n t)
  | _ =>
    match y with
    | 0 => plain .rlca t
    | 1 => plain .rrca t
    | 2 => plain .rla t
    | 3 => plain .rra t
    | 4 => operand1 .add_SP_d t
    | 5 => plain .cpl t
    | 6 => plain .scf t
    | _ => plain .ccf t

/-- Rows 4 to 7 of the main page: LD r,g, the (HL) forms, ALTD at 76, and IDET at 5B on the Rabbit 3000A (30_encoding.md
R122, R130; 49_prefix_system.md R580). -/
def decodeRow1 (v : Variant) (y z : Nat) (t : List Byte) : Decoded :=
  if y = 3 ∧ z = 3 ∧ v.has3000A then plain .idet t
  else
    regOr y
      (fun r => regOr z (fun g => plain (Form.ldRG r g) t) (plain (Form.ldRAtHL r) t))
      (regOr z (fun g => plain (Form.ldAtHLR g) t) (plain .altd t))

/-- Rows C to F of the main page (30_encoding.md R122, R130), by bits 5..3 and 2..0. -/
def decodeRow3 (v : Variant) (y z : Nat) (t : List Byte) : Decoded :=
  let q := Zz.ofField (y / 2)
  let page (f : Byte → List Byte → Decoded) : Decoded :=
    match t with
    | op :: t' => f op t'
    | [] => .error .truncated
  match z with
  | 0 => plain (Form.retF (Cond.ofField y)) t
  | 1 =>
    match y with
    | 1 => plain .ret t
    | 3 => plain .exx t
    | 5 => plain .jp_atHL t
    | 7 => plain .ld_SP_HL t
    | _ => plain (Form.popZz q) t
  | 2 => operandMn (Form.jpF (Cond.ofField y)) t
  | 3 =>
    match y with
    | 0 => operandMn .jp_mn t
    | 1 => page decodeCB
    | 2 => plain .ioi t
    | 3 => plain .ioe t
    | 4 => plain .ex_DE'_HL t
    | 5 => plain .ex_DE_HL t
    | 6 => plain .rl_DE t
    | _ => plain .rr_DE t
  | 4 =>
    match y with
    | 0 => operand1 .ld_HL_atSPn t
    | 1 => plain .bool_HL t
    | 2 => operand1 .ld_atSPn_HL t
    | 3 => plain .and_HL_DE t
    | 4 => operand1 (Form.ldHLAtIdx .ix) t
    | 5 => plain .or_HL_DE t
    | 6 => operand1 (Form.ldAtIdxHL .ix) t
    | _ => plain .rr_HL t
  | 5 =>
    match y with
    | 1 => operandMn .call_mn t
    | 3 => page (decodeIdx .ix)
    | 5 => page (decodeED v)
    | 7 => page (decodeIdx .iy)
    | _ => plain (Form.pushZz q) t
  | 6 => operand1 (Form.aluN (AluOp.ofField y)) t
  | _ =>
    match y with
    | 0 => operand3 (fun n m x => .ljp_x_mn (mkWord m n) x) t
    | 1 => operand3 (fun n m x => .lcall_x_mn (mkWord m n) x) t
    | 2 => plain (Form.rst .v10) t
    | 3 => plain (Form.rst .v18) t
    | 4 => plain (Form.rst .v20) t
    | 5 => plain (Form.rst .v28) t
    | 6 => plain .mul t
    | _ => plain (Form.rst .v38) t

/-- The main page by the first byte (30_encoding.md R127, R130). -/
def decodeFrom (v : Variant) (b : Byte) (t : List Byte) : Decoded :=
  let y := b.toNat / 8 % 8
  let z := b.toNat % 8
  match b.toNat / 64 with
  | 0 => decodeRow0 y z t
  | 1 => decodeRow1 v y z t
  | 2 => regOr z (fun r => plain (Form.aluR (AluOp.ofField y) r) t) (plain (Form.aluAtHL (AluOp.ofField y)) t)
  | _ => decodeRow3 v y z t

/-- The decoder: the instruction at the head of the bytes, on a chip, and the bytes behind it (30_encoding.md R127).
ALTD, IOI and IOE are instructions here; the step joins them with what they modify. -/
def decode (v : Variant) : List Byte → Decoded
  | [] => .error .truncated
  | b :: t => decodeFrom v b t

/-! ## The encoder -/

/-- The bytes of an instruction, at increasing addresses (30_encoding.md R121, R122, and the Encoding line of each
rule). -/
def encode : Instr → List Byte
  -- 8-bit loads (40_ld8.md)
  | .ld_B_B => [0x40]
  | .ld_B_C => [0x41]
  | .ld_B_D => [0x42]
  | .ld_B_E => [0x43]
  | .ld_B_H => [0x44]
  | .ld_B_L => [0x45]
  | .ld_B_A => [0x47]
  | .ld_C_B => [0x48]
  | .ld_C_C => [0x49]
  | .ld_C_D => [0x4A]
  | .ld_C_E => [0x4B]
  | .ld_C_H => [0x4C]
  | .ld_C_L => [0x4D]
  | .ld_C_A => [0x4F]
  | .ld_D_B => [0x50]
  | .ld_D_C => [0x51]
  | .ld_D_D => [0x52]
  | .ld_D_E => [0x53]
  | .ld_D_H => [0x54]
  | .ld_D_L => [0x55]
  | .ld_D_A => [0x57]
  | .ld_E_B => [0x58]
  | .ld_E_C => [0x59]
  | .ld_E_D => [0x5A]
  | .ld_E_E => [0x5B]
  | .ld_E_H => [0x5C]
  | .ld_E_L => [0x5D]
  | .ld_E_A => [0x5F]
  | .ld_H_B => [0x60]
  | .ld_H_C => [0x61]
  | .ld_H_D => [0x62]
  | .ld_H_E => [0x63]
  | .ld_H_H => [0x64]
  | .ld_H_L => [0x65]
  | .ld_H_A => [0x67]
  | .ld_L_B => [0x68]
  | .ld_L_C => [0x69]
  | .ld_L_D => [0x6A]
  | .ld_L_E => [0x6B]
  | .ld_L_H => [0x6C]
  | .ld_L_L => [0x6D]
  | .ld_L_A => [0x6F]
  | .ld_A_B => [0x78]
  | .ld_A_C => [0x79]
  | .ld_A_D => [0x7A]
  | .ld_A_E => [0x7B]
  | .ld_A_H => [0x7C]
  | .ld_A_L => [0x7D]
  | .ld_A_A => [0x7F]
  | .ld_B_n n => [0x06, n]
  | .ld_C_n n => [0x0E, n]
  | .ld_D_n n => [0x16, n]
  | .ld_E_n n => [0x1E, n]
  | .ld_H_n n => [0x26, n]
  | .ld_L_n n => [0x2E, n]
  | .ld_A_n n => [0x3E, n]
  | .ld_B_atHL => [0x46]
  | .ld_C_atHL => [0x4E]
  | .ld_D_atHL => [0x56]
  | .ld_E_atHL => [0x5E]
  | .ld_H_atHL => [0x66]
  | .ld_L_atHL => [0x6E]
  | .ld_A_atHL => [0x7E]
  | .ld_B_atIXd d => [0xDD, 0x46, d]
  | .ld_C_atIXd d => [0xDD, 0x4E, d]
  | .ld_D_atIXd d => [0xDD, 0x56, d]
  | .ld_E_atIXd d => [0xDD, 0x5E, d]
  | .ld_H_atIXd d => [0xDD, 0x66, d]
  | .ld_L_atIXd d => [0xDD, 0x6E, d]
  | .ld_A_atIXd d => [0xDD, 0x7E, d]
  | .ld_B_atIYd d => [0xFD, 0x46, d]
  | .ld_C_atIYd d => [0xFD, 0x4E, d]
  | .ld_D_atIYd d => [0xFD, 0x56, d]
  | .ld_E_atIYd d => [0xFD, 0x5E, d]
  | .ld_H_atIYd d => [0xFD, 0x66, d]
  | .ld_L_atIYd d => [0xFD, 0x6E, d]
  | .ld_A_atIYd d => [0xFD, 0x7E, d]
  | .ld_atHL_B => [0x70]
  | .ld_atHL_C => [0x71]
  | .ld_atHL_D => [0x72]
  | .ld_atHL_E => [0x73]
  | .ld_atHL_H => [0x74]
  | .ld_atHL_L => [0x75]
  | .ld_atHL_A => [0x77]
  | .ld_atHL_n n => [0x36, n]
  | .ld_atIXd_B d => [0xDD, 0x70, d]
  | .ld_atIXd_C d => [0xDD, 0x71, d]
  | .ld_atIXd_D d => [0xDD, 0x72, d]
  | .ld_atIXd_E d => [0xDD, 0x73, d]
  | .ld_atIXd_H d => [0xDD, 0x74, d]
  | .ld_atIXd_L d => [0xDD, 0x75, d]
  | .ld_atIXd_A d => [0xDD, 0x77, d]
  | .ld_atIXd_n d n => [0xDD, 0x36, d, n]
  | .ld_atIYd_B d => [0xFD, 0x70, d]
  | .ld_atIYd_C d => [0xFD, 0x71, d]
  | .ld_atIYd_D d => [0xFD, 0x72, d]
  | .ld_atIYd_E d => [0xFD, 0x73, d]
  | .ld_atIYd_H d => [0xFD, 0x74, d]
  | .ld_atIYd_L d => [0xFD, 0x75, d]
  | .ld_atIYd_A d => [0xFD, 0x77, d]
  | .ld_atIYd_n d n => [0xFD, 0x36, d, n]
  | .ld_A_atBC => [0x0A]
  | .ld_A_atDE => [0x1A]
  | .ld_A_atMn mn => [0x3A, loByte mn, hiByte mn]
  | .ld_atBC_A => [0x02]
  | .ld_atDE_A => [0x12]
  | .ld_atMn_A mn => [0x32, loByte mn, hiByte mn]
  | .ld_A_EIR => [0xED, 0x57]
  | .ld_A_IIR => [0xED, 0x5F]
  | .ld_EIR_A => [0xED, 0x47]
  | .ld_IIR_A => [0xED, 0x4F]
  | .ld_A_XPC => [0xED, 0x77]
  | .ld_XPC_A => [0xED, 0x67]
  -- 16-bit loads and LDP (41_ld16.md)
  | .ld_BC_mn mn => [0x01, loByte mn, hiByte mn]
  | .ld_DE_mn mn => [0x11, loByte mn, hiByte mn]
  | .ld_HL_mn mn => [0x21, loByte mn, hiByte mn]
  | .ld_SP_mn mn => [0x31, loByte mn, hiByte mn]
  | .ld_IX_mn mn => [0xDD, 0x21, loByte mn, hiByte mn]
  | .ld_IY_mn mn => [0xFD, 0x21, loByte mn, hiByte mn]
  | .ld_HL_atMn mn => [0x2A, loByte mn, hiByte mn]
  | .ld_BC_atMn mn => [0xED, 0x4B, loByte mn, hiByte mn]
  | .ld_DE_atMn mn => [0xED, 0x5B, loByte mn, hiByte mn]
  | .ld_HL_atMn_ed mn => [0xED, 0x6B, loByte mn, hiByte mn]
  | .ld_SP_atMn mn => [0xED, 0x7B, loByte mn, hiByte mn]
  | .ld_IX_atMn mn => [0xDD, 0x2A, loByte mn, hiByte mn]
  | .ld_IY_atMn mn => [0xFD, 0x2A, loByte mn, hiByte mn]
  | .ld_atMn_HL mn => [0x22, loByte mn, hiByte mn]
  | .ld_atMn_BC mn => [0xED, 0x43, loByte mn, hiByte mn]
  | .ld_atMn_DE mn => [0xED, 0x53, loByte mn, hiByte mn]
  | .ld_atMn_HL_ed mn => [0xED, 0x63, loByte mn, hiByte mn]
  | .ld_atMn_SP mn => [0xED, 0x73, loByte mn, hiByte mn]
  | .ld_atMn_IX mn => [0xDD, 0x22, loByte mn, hiByte mn]
  | .ld_atMn_IY mn => [0xFD, 0x22, loByte mn, hiByte mn]
  | .ld_HL_atHLd d => [0xDD, 0xE4, d]
  | .ld_HL_atIXd d => [0xE4, d]
  | .ld_HL_atIYd d => [0xFD, 0xE4, d]
  | .ld_atHLd_HL d => [0xDD, 0xF4, d]
  | .ld_atIXd_HL d => [0xF4, d]
  | .ld_atIYd_HL d => [0xFD, 0xF4, d]
  | .ld_HL_atSPn n => [0xC4, n]
  | .ld_IX_atSPn n => [0xDD, 0xC4, n]
  | .ld_IY_atSPn n => [0xFD, 0xC4, n]
  | .ld_atSPn_HL n => [0xD4, n]
  | .ld_atSPn_IX n => [0xDD, 0xD4, n]
  | .ld_atSPn_IY n => [0xFD, 0xD4, n]
  | .ld_HL_IX => [0xDD, 0x7C]
  | .ld_HL_IY => [0xFD, 0x7C]
  | .ld_IX_HL => [0xDD, 0x7D]
  | .ld_IY_HL => [0xFD, 0x7D]
  | .ld_SP_HL => [0xF9]
  | .ld_SP_IX => [0xDD, 0xF9]
  | .ld_SP_IY => [0xFD, 0xF9]
  | .ld_BC'_BC => [0xED, 0x49]
  | .ld_DE'_BC => [0xED, 0x59]
  | .ld_HL'_BC => [0xED, 0x69]
  | .ld_BC'_DE => [0xED, 0x41]
  | .ld_DE'_DE => [0xED, 0x51]
  | .ld_HL'_DE => [0xED, 0x61]
  | .ldp_atHL_HL => [0xED, 0x64]
  | .ldp_atIX_HL => [0xDD, 0x64]
  | .ldp_atIY_HL => [0xFD, 0x64]
  | .ldp_atMn_HL mn => [0xED, 0x65, loByte mn, hiByte mn]
  | .ldp_atMn_IX mn => [0xDD, 0x65, loByte mn, hiByte mn]
  | .ldp_atMn_IY mn => [0xFD, 0x65, loByte mn, hiByte mn]
  | .ldp_HL_atHL => [0xED, 0x6C]
  | .ldp_HL_atIX => [0xDD, 0x6C]
  | .ldp_HL_atIY => [0xFD, 0x6C]
  | .ldp_HL_atMn mn => [0xED, 0x6D, loByte mn, hiByte mn]
  | .ldp_IX_atMn mn => [0xDD, 0x6D, loByte mn, hiByte mn]
  | .ldp_IY_atMn mn => [0xFD, 0x6D, loByte mn, hiByte mn]
  -- Stack and exchange (42_stack_exchange.md)
  | .push_BC => [0xC5]
  | .push_DE => [0xD5]
  | .push_HL => [0xE5]
  | .push_AF => [0xF5]
  | .push_IX => [0xDD, 0xE5]
  | .push_IY => [0xFD, 0xE5]
  | .push_IP => [0xED, 0x76]
  | .push_SU => [0xED, 0x66]
  | .pop_BC => [0xC1]
  | .pop_DE => [0xD1]
  | .pop_HL => [0xE1]
  | .pop_AF => [0xF1]
  | .pop_IX => [0xDD, 0xE1]
  | .pop_IY => [0xFD, 0xE1]
  | .pop_IP => [0xED, 0x7E]
  | .pop_SU => [0xED, 0x6E]
  | .ex_AF_AF' => [0x08]
  | .exx => [0xD9]
  | .ex_DE_HL => [0xEB]
  | .ex_DE'_HL => [0xE3]
  | .ex_atSP_HL => [0xED, 0x54]
  | .ex_atSP_IX => [0xDD, 0xE3]
  | .ex_atSP_IY => [0xFD, 0xE3]
  -- 8-bit arithmetic and logic (43_alu8.md)
  | .add_A_B => [0x80]
  | .add_A_C => [0x81]
  | .add_A_D => [0x82]
  | .add_A_E => [0x83]
  | .add_A_H => [0x84]
  | .add_A_L => [0x85]
  | .add_A_A => [0x87]
  | .add_A_n n => [0xC6, n]
  | .add_A_atHL => [0x86]
  | .add_A_atIXd d => [0xDD, 0x86, d]
  | .add_A_atIYd d => [0xFD, 0x86, d]
  | .adc_A_B => [0x88]
  | .adc_A_C => [0x89]
  | .adc_A_D => [0x8A]
  | .adc_A_E => [0x8B]
  | .adc_A_H => [0x8C]
  | .adc_A_L => [0x8D]
  | .adc_A_A => [0x8F]
  | .adc_A_n n => [0xCE, n]
  | .adc_A_atHL => [0x8E]
  | .adc_A_atIXd d => [0xDD, 0x8E, d]
  | .adc_A_atIYd d => [0xFD, 0x8E, d]
  | .sub_B => [0x90]
  | .sub_C => [0x91]
  | .sub_D => [0x92]
  | .sub_E => [0x93]
  | .sub_H => [0x94]
  | .sub_L => [0x95]
  | .sub_A => [0x97]
  | .sub_n n => [0xD6, n]
  | .sub_atHL => [0x96]
  | .sub_atIXd d => [0xDD, 0x96, d]
  | .sub_atIYd d => [0xFD, 0x96, d]
  | .sbc_A_B => [0x98]
  | .sbc_A_C => [0x99]
  | .sbc_A_D => [0x9A]
  | .sbc_A_E => [0x9B]
  | .sbc_A_H => [0x9C]
  | .sbc_A_L => [0x9D]
  | .sbc_A_A => [0x9F]
  | .sbc_A_n n => [0xDE, n]
  | .sbc_A_atHL => [0x9E]
  | .sbc_A_atIXd d => [0xDD, 0x9E, d]
  | .sbc_A_atIYd d => [0xFD, 0x9E, d]
  | .and_B => [0xA0]
  | .and_C => [0xA1]
  | .and_D => [0xA2]
  | .and_E => [0xA3]
  | .and_H => [0xA4]
  | .and_L => [0xA5]
  | .and_A => [0xA7]
  | .and_n n => [0xE6, n]
  | .and_atHL => [0xA6]
  | .and_atIXd d => [0xDD, 0xA6, d]
  | .and_atIYd d => [0xFD, 0xA6, d]
  | .or_B => [0xB0]
  | .or_C => [0xB1]
  | .or_D => [0xB2]
  | .or_E => [0xB3]
  | .or_H => [0xB4]
  | .or_L => [0xB5]
  | .or_A => [0xB7]
  | .or_n n => [0xF6, n]
  | .or_atHL => [0xB6]
  | .or_atIXd d => [0xDD, 0xB6, d]
  | .or_atIYd d => [0xFD, 0xB6, d]
  | .xor_B => [0xA8]
  | .xor_C => [0xA9]
  | .xor_D => [0xAA]
  | .xor_E => [0xAB]
  | .xor_H => [0xAC]
  | .xor_L => [0xAD]
  | .xor_A => [0xAF]
  | .xor_n n => [0xEE, n]
  | .xor_atHL => [0xAE]
  | .xor_atIXd d => [0xDD, 0xAE, d]
  | .xor_atIYd d => [0xFD, 0xAE, d]
  | .cp_B => [0xB8]
  | .cp_C => [0xB9]
  | .cp_D => [0xBA]
  | .cp_E => [0xBB]
  | .cp_H => [0xBC]
  | .cp_L => [0xBD]
  | .cp_A => [0xBF]
  | .cp_n n => [0xFE, n]
  | .cp_atHL => [0xBE]
  | .cp_atIXd d => [0xDD, 0xBE, d]
  | .cp_atIYd d => [0xFD, 0xBE, d]
  | .inc_B => [0x04]
  | .inc_C => [0x0C]
  | .inc_D => [0x14]
  | .inc_E => [0x1C]
  | .inc_H => [0x24]
  | .inc_L => [0x2C]
  | .inc_A => [0x3C]
  | .inc_atHL => [0x34]
  | .inc_atIXd d => [0xDD, 0x34, d]
  | .inc_atIYd d => [0xFD, 0x34, d]
  | .dec_B => [0x05]
  | .dec_C => [0x0D]
  | .dec_D => [0x15]
  | .dec_E => [0x1D]
  | .dec_H => [0x25]
  | .dec_L => [0x2D]
  | .dec_A => [0x3D]
  | .dec_atHL => [0x35]
  | .dec_atIXd d => [0xDD, 0x35, d]
  | .dec_atIYd d => [0xFD, 0x35, d]
  | .neg => [0xED, 0x44]
  | .cpl => [0x2F]
  | .ccf => [0x3F]
  | .scf => [0x37]
  -- 16-bit arithmetic and logic (44_alu16.md)
  | .add_HL_BC => [0x09]
  | .add_HL_DE => [0x19]
  | .add_HL_HL => [0x29]
  | .add_HL_SP => [0x39]
  | .add_IX_BC => [0xDD, 0x09]
  | .add_IX_DE => [0xDD, 0x19]
  | .add_IX_IX => [0xDD, 0x29]
  | .add_IX_SP => [0xDD, 0x39]
  | .add_IY_BC => [0xFD, 0x09]
  | .add_IY_DE => [0xFD, 0x19]
  | .add_IY_IY => [0xFD, 0x29]
  | .add_IY_SP => [0xFD, 0x39]
  | .add_SP_d d => [0x27, d]
  | .adc_HL_BC => [0xED, 0x4A]
  | .adc_HL_DE => [0xED, 0x5A]
  | .adc_HL_HL => [0xED, 0x6A]
  | .adc_HL_SP => [0xED, 0x7A]
  | .sbc_HL_BC => [0xED, 0x42]
  | .sbc_HL_DE => [0xED, 0x52]
  | .sbc_HL_HL => [0xED, 0x62]
  | .sbc_HL_SP => [0xED, 0x72]
  | .and_HL_DE => [0xDC]
  | .and_IX_DE => [0xDD, 0xDC]
  | .and_IY_DE => [0xFD, 0xDC]
  | .or_HL_DE => [0xEC]
  | .or_IX_DE => [0xDD, 0xEC]
  | .or_IY_DE => [0xFD, 0xEC]
  | .bool_HL => [0xCC]
  | .bool_IX => [0xDD, 0xCC]
  | .bool_IY => [0xFD, 0xCC]
  | .inc_BC => [0x03]
  | .inc_DE => [0x13]
  | .inc_HL => [0x23]
  | .inc_SP => [0x33]
  | .inc_IX => [0xDD, 0x23]
  | .inc_IY => [0xFD, 0x23]
  | .dec_BC => [0x0B]
  | .dec_DE => [0x1B]
  | .dec_HL => [0x2B]
  | .dec_SP => [0x3B]
  | .dec_IX => [0xDD, 0x2B]
  | .dec_IY => [0xFD, 0x2B]
  | .mul => [0xF7]
  -- Rotates and shifts (45_rotate_shift.md)
  | .rlca => [0x07]
  | .rla => [0x17]
  | .rrca => [0x0F]
  | .rra => [0x1F]
  | .rlc_B => [0xCB, 0x00]
  | .rlc_C => [0xCB, 0x01]
  | .rlc_D => [0xCB, 0x02]
  | .rlc_E => [0xCB, 0x03]
  | .rlc_H => [0xCB, 0x04]
  | .rlc_L => [0xCB, 0x05]
  | .rlc_A => [0xCB, 0x07]
  | .rlc_atHL => [0xCB, 0x06]
  | .rlc_atIXd d => [0xDD, 0xCB, d, 0x06]
  | .rlc_atIYd d => [0xFD, 0xCB, d, 0x06]
  | .rl_B => [0xCB, 0x10]
  | .rl_C => [0xCB, 0x11]
  | .rl_D => [0xCB, 0x12]
  | .rl_E => [0xCB, 0x13]
  | .rl_H => [0xCB, 0x14]
  | .rl_L => [0xCB, 0x15]
  | .rl_A => [0xCB, 0x17]
  | .rl_atHL => [0xCB, 0x16]
  | .rl_atIXd d => [0xDD, 0xCB, d, 0x16]
  | .rl_atIYd d => [0xFD, 0xCB, d, 0x16]
  | .rrc_B => [0xCB, 0x08]
  | .rrc_C => [0xCB, 0x09]
  | .rrc_D => [0xCB, 0x0A]
  | .rrc_E => [0xCB, 0x0B]
  | .rrc_H => [0xCB, 0x0C]
  | .rrc_L => [0xCB, 0x0D]
  | .rrc_A => [0xCB, 0x0F]
  | .rrc_atHL => [0xCB, 0x0E]
  | .rrc_atIXd d => [0xDD, 0xCB, d, 0x0E]
  | .rrc_atIYd d => [0xFD, 0xCB, d, 0x0E]
  | .rr_B => [0xCB, 0x18]
  | .rr_C => [0xCB, 0x19]
  | .rr_D => [0xCB, 0x1A]
  | .rr_E => [0xCB, 0x1B]
  | .rr_H => [0xCB, 0x1C]
  | .rr_L => [0xCB, 0x1D]
  | .rr_A => [0xCB, 0x1F]
  | .rr_atHL => [0xCB, 0x1E]
  | .rr_atIXd d => [0xDD, 0xCB, d, 0x1E]
  | .rr_atIYd d => [0xFD, 0xCB, d, 0x1E]
  | .sla_B => [0xCB, 0x20]
  | .sla_C => [0xCB, 0x21]
  | .sla_D => [0xCB, 0x22]
  | .sla_E => [0xCB, 0x23]
  | .sla_H => [0xCB, 0x24]
  | .sla_L => [0xCB, 0x25]
  | .sla_A => [0xCB, 0x27]
  | .sla_atHL => [0xCB, 0x26]
  | .sla_atIXd d => [0xDD, 0xCB, d, 0x26]
  | .sla_atIYd d => [0xFD, 0xCB, d, 0x26]
  | .sra_B => [0xCB, 0x28]
  | .sra_C => [0xCB, 0x29]
  | .sra_D => [0xCB, 0x2A]
  | .sra_E => [0xCB, 0x2B]
  | .sra_H => [0xCB, 0x2C]
  | .sra_L => [0xCB, 0x2D]
  | .sra_A => [0xCB, 0x2F]
  | .sra_atHL => [0xCB, 0x2E]
  | .sra_atIXd d => [0xDD, 0xCB, d, 0x2E]
  | .sra_atIYd d => [0xFD, 0xCB, d, 0x2E]
  | .srl_B => [0xCB, 0x38]
  | .srl_C => [0xCB, 0x39]
  | .srl_D => [0xCB, 0x3A]
  | .srl_E => [0xCB, 0x3B]
  | .srl_H => [0xCB, 0x3C]
  | .srl_L => [0xCB, 0x3D]
  | .srl_A => [0xCB, 0x3F]
  | .srl_atHL => [0xCB, 0x3E]
  | .srl_atIXd d => [0xDD, 0xCB, d, 0x3E]
  | .srl_atIYd d => [0xFD, 0xCB, d, 0x3E]
  | .rl_DE => [0xF3]
  | .rr_DE => [0xFB]
  | .rr_HL => [0xFC]
  | .rr_IX => [0xDD, 0xFC]
  | .rr_IY => [0xFD, 0xFC]
  -- Bit test, reset and set (46_bit.md)
  | .bit_0_B => [0xCB, 0x40]
  | .bit_0_C => [0xCB, 0x41]
  | .bit_0_D => [0xCB, 0x42]
  | .bit_0_E => [0xCB, 0x43]
  | .bit_0_H => [0xCB, 0x44]
  | .bit_0_L => [0xCB, 0x45]
  | .bit_0_A => [0xCB, 0x47]
  | .bit_1_B => [0xCB, 0x48]
  | .bit_1_C => [0xCB, 0x49]
  | .bit_1_D => [0xCB, 0x4A]
  | .bit_1_E => [0xCB, 0x4B]
  | .bit_1_H => [0xCB, 0x4C]
  | .bit_1_L => [0xCB, 0x4D]
  | .bit_1_A => [0xCB, 0x4F]
  | .bit_2_B => [0xCB, 0x50]
  | .bit_2_C => [0xCB, 0x51]
  | .bit_2_D => [0xCB, 0x52]
  | .bit_2_E => [0xCB, 0x53]
  | .bit_2_H => [0xCB, 0x54]
  | .bit_2_L => [0xCB, 0x55]
  | .bit_2_A => [0xCB, 0x57]
  | .bit_3_B => [0xCB, 0x58]
  | .bit_3_C => [0xCB, 0x59]
  | .bit_3_D => [0xCB, 0x5A]
  | .bit_3_E => [0xCB, 0x5B]
  | .bit_3_H => [0xCB, 0x5C]
  | .bit_3_L => [0xCB, 0x5D]
  | .bit_3_A => [0xCB, 0x5F]
  | .bit_4_B => [0xCB, 0x60]
  | .bit_4_C => [0xCB, 0x61]
  | .bit_4_D => [0xCB, 0x62]
  | .bit_4_E => [0xCB, 0x63]
  | .bit_4_H => [0xCB, 0x64]
  | .bit_4_L => [0xCB, 0x65]
  | .bit_4_A => [0xCB, 0x67]
  | .bit_5_B => [0xCB, 0x68]
  | .bit_5_C => [0xCB, 0x69]
  | .bit_5_D => [0xCB, 0x6A]
  | .bit_5_E => [0xCB, 0x6B]
  | .bit_5_H => [0xCB, 0x6C]
  | .bit_5_L => [0xCB, 0x6D]
  | .bit_5_A => [0xCB, 0x6F]
  | .bit_6_B => [0xCB, 0x70]
  | .bit_6_C => [0xCB, 0x71]
  | .bit_6_D => [0xCB, 0x72]
  | .bit_6_E => [0xCB, 0x73]
  | .bit_6_H => [0xCB, 0x74]
  | .bit_6_L => [0xCB, 0x75]
  | .bit_6_A => [0xCB, 0x77]
  | .bit_7_B => [0xCB, 0x78]
  | .bit_7_C => [0xCB, 0x79]
  | .bit_7_D => [0xCB, 0x7A]
  | .bit_7_E => [0xCB, 0x7B]
  | .bit_7_H => [0xCB, 0x7C]
  | .bit_7_L => [0xCB, 0x7D]
  | .bit_7_A => [0xCB, 0x7F]
  | .bit_0_atHL => [0xCB, 0x46]
  | .bit_1_atHL => [0xCB, 0x4E]
  | .bit_2_atHL => [0xCB, 0x56]
  | .bit_3_atHL => [0xCB, 0x5E]
  | .bit_4_atHL => [0xCB, 0x66]
  | .bit_5_atHL => [0xCB, 0x6E]
  | .bit_6_atHL => [0xCB, 0x76]
  | .bit_7_atHL => [0xCB, 0x7E]
  | .bit_0_atIXd d => [0xDD, 0xCB, d, 0x46]
  | .bit_1_atIXd d => [0xDD, 0xCB, d, 0x4E]
  | .bit_2_atIXd d => [0xDD, 0xCB, d, 0x56]
  | .bit_3_atIXd d => [0xDD, 0xCB, d, 0x5E]
  | .bit_4_atIXd d => [0xDD, 0xCB, d, 0x66]
  | .bit_5_atIXd d => [0xDD, 0xCB, d, 0x6E]
  | .bit_6_atIXd d => [0xDD, 0xCB, d, 0x76]
  | .bit_7_atIXd d => [0xDD, 0xCB, d, 0x7E]
  | .bit_0_atIYd d => [0xFD, 0xCB, d, 0x46]
  | .bit_1_atIYd d => [0xFD, 0xCB, d, 0x4E]
  | .bit_2_atIYd d => [0xFD, 0xCB, d, 0x56]
  | .bit_3_atIYd d => [0xFD, 0xCB, d, 0x5E]
  | .bit_4_atIYd d => [0xFD, 0xCB, d, 0x66]
  | .bit_5_atIYd d => [0xFD, 0xCB, d, 0x6E]
  | .bit_6_atIYd d => [0xFD, 0xCB, d, 0x76]
  | .bit_7_atIYd d => [0xFD, 0xCB, d, 0x7E]
  | .res_0_B => [0xCB, 0x80]
  | .res_0_C => [0xCB, 0x81]
  | .res_0_D => [0xCB, 0x82]
  | .res_0_E => [0xCB, 0x83]
  | .res_0_H => [0xCB, 0x84]
  | .res_0_L => [0xCB, 0x85]
  | .res_0_A => [0xCB, 0x87]
  | .res_1_B => [0xCB, 0x88]
  | .res_1_C => [0xCB, 0x89]
  | .res_1_D => [0xCB, 0x8A]
  | .res_1_E => [0xCB, 0x8B]
  | .res_1_H => [0xCB, 0x8C]
  | .res_1_L => [0xCB, 0x8D]
  | .res_1_A => [0xCB, 0x8F]
  | .res_2_B => [0xCB, 0x90]
  | .res_2_C => [0xCB, 0x91]
  | .res_2_D => [0xCB, 0x92]
  | .res_2_E => [0xCB, 0x93]
  | .res_2_H => [0xCB, 0x94]
  | .res_2_L => [0xCB, 0x95]
  | .res_2_A => [0xCB, 0x97]
  | .res_3_B => [0xCB, 0x98]
  | .res_3_C => [0xCB, 0x99]
  | .res_3_D => [0xCB, 0x9A]
  | .res_3_E => [0xCB, 0x9B]
  | .res_3_H => [0xCB, 0x9C]
  | .res_3_L => [0xCB, 0x9D]
  | .res_3_A => [0xCB, 0x9F]
  | .res_4_B => [0xCB, 0xA0]
  | .res_4_C => [0xCB, 0xA1]
  | .res_4_D => [0xCB, 0xA2]
  | .res_4_E => [0xCB, 0xA3]
  | .res_4_H => [0xCB, 0xA4]
  | .res_4_L => [0xCB, 0xA5]
  | .res_4_A => [0xCB, 0xA7]
  | .res_5_B => [0xCB, 0xA8]
  | .res_5_C => [0xCB, 0xA9]
  | .res_5_D => [0xCB, 0xAA]
  | .res_5_E => [0xCB, 0xAB]
  | .res_5_H => [0xCB, 0xAC]
  | .res_5_L => [0xCB, 0xAD]
  | .res_5_A => [0xCB, 0xAF]
  | .res_6_B => [0xCB, 0xB0]
  | .res_6_C => [0xCB, 0xB1]
  | .res_6_D => [0xCB, 0xB2]
  | .res_6_E => [0xCB, 0xB3]
  | .res_6_H => [0xCB, 0xB4]
  | .res_6_L => [0xCB, 0xB5]
  | .res_6_A => [0xCB, 0xB7]
  | .res_7_B => [0xCB, 0xB8]
  | .res_7_C => [0xCB, 0xB9]
  | .res_7_D => [0xCB, 0xBA]
  | .res_7_E => [0xCB, 0xBB]
  | .res_7_H => [0xCB, 0xBC]
  | .res_7_L => [0xCB, 0xBD]
  | .res_7_A => [0xCB, 0xBF]
  | .res_0_atHL => [0xCB, 0x86]
  | .res_1_atHL => [0xCB, 0x8E]
  | .res_2_atHL => [0xCB, 0x96]
  | .res_3_atHL => [0xCB, 0x9E]
  | .res_4_atHL => [0xCB, 0xA6]
  | .res_5_atHL => [0xCB, 0xAE]
  | .res_6_atHL => [0xCB, 0xB6]
  | .res_7_atHL => [0xCB, 0xBE]
  | .res_0_atIXd d => [0xDD, 0xCB, d, 0x86]
  | .res_1_atIXd d => [0xDD, 0xCB, d, 0x8E]
  | .res_2_atIXd d => [0xDD, 0xCB, d, 0x96]
  | .res_3_atIXd d => [0xDD, 0xCB, d, 0x9E]
  | .res_4_atIXd d => [0xDD, 0xCB, d, 0xA6]
  | .res_5_atIXd d => [0xDD, 0xCB, d, 0xAE]
  | .res_6_atIXd d => [0xDD, 0xCB, d, 0xB6]
  | .res_7_atIXd d => [0xDD, 0xCB, d, 0xBE]
  | .res_0_atIYd d => [0xFD, 0xCB, d, 0x86]
  | .res_1_atIYd d => [0xFD, 0xCB, d, 0x8E]
  | .res_2_atIYd d => [0xFD, 0xCB, d, 0x96]
  | .res_3_atIYd d => [0xFD, 0xCB, d, 0x9E]
  | .res_4_atIYd d => [0xFD, 0xCB, d, 0xA6]
  | .res_5_atIYd d => [0xFD, 0xCB, d, 0xAE]
  | .res_6_atIYd d => [0xFD, 0xCB, d, 0xB6]
  | .res_7_atIYd d => [0xFD, 0xCB, d, 0xBE]
  | .set_0_B => [0xCB, 0xC0]
  | .set_0_C => [0xCB, 0xC1]
  | .set_0_D => [0xCB, 0xC2]
  | .set_0_E => [0xCB, 0xC3]
  | .set_0_H => [0xCB, 0xC4]
  | .set_0_L => [0xCB, 0xC5]
  | .set_0_A => [0xCB, 0xC7]
  | .set_1_B => [0xCB, 0xC8]
  | .set_1_C => [0xCB, 0xC9]
  | .set_1_D => [0xCB, 0xCA]
  | .set_1_E => [0xCB, 0xCB]
  | .set_1_H => [0xCB, 0xCC]
  | .set_1_L => [0xCB, 0xCD]
  | .set_1_A => [0xCB, 0xCF]
  | .set_2_B => [0xCB, 0xD0]
  | .set_2_C => [0xCB, 0xD1]
  | .set_2_D => [0xCB, 0xD2]
  | .set_2_E => [0xCB, 0xD3]
  | .set_2_H => [0xCB, 0xD4]
  | .set_2_L => [0xCB, 0xD5]
  | .set_2_A => [0xCB, 0xD7]
  | .set_3_B => [0xCB, 0xD8]
  | .set_3_C => [0xCB, 0xD9]
  | .set_3_D => [0xCB, 0xDA]
  | .set_3_E => [0xCB, 0xDB]
  | .set_3_H => [0xCB, 0xDC]
  | .set_3_L => [0xCB, 0xDD]
  | .set_3_A => [0xCB, 0xDF]
  | .set_4_B => [0xCB, 0xE0]
  | .set_4_C => [0xCB, 0xE1]
  | .set_4_D => [0xCB, 0xE2]
  | .set_4_E => [0xCB, 0xE3]
  | .set_4_H => [0xCB, 0xE4]
  | .set_4_L => [0xCB, 0xE5]
  | .set_4_A => [0xCB, 0xE7]
  | .set_5_B => [0xCB, 0xE8]
  | .set_5_C => [0xCB, 0xE9]
  | .set_5_D => [0xCB, 0xEA]
  | .set_5_E => [0xCB, 0xEB]
  | .set_5_H => [0xCB, 0xEC]
  | .set_5_L => [0xCB, 0xED]
  | .set_5_A => [0xCB, 0xEF]
  | .set_6_B => [0xCB, 0xF0]
  | .set_6_C => [0xCB, 0xF1]
  | .set_6_D => [0xCB, 0xF2]
  | .set_6_E => [0xCB, 0xF3]
  | .set_6_H => [0xCB, 0xF4]
  | .set_6_L => [0xCB, 0xF5]
  | .set_6_A => [0xCB, 0xF7]
  | .set_7_B => [0xCB, 0xF8]
  | .set_7_C => [0xCB, 0xF9]
  | .set_7_D => [0xCB, 0xFA]
  | .set_7_E => [0xCB, 0xFB]
  | .set_7_H => [0xCB, 0xFC]
  | .set_7_L => [0xCB, 0xFD]
  | .set_7_A => [0xCB, 0xFF]
  | .set_0_atHL => [0xCB, 0xC6]
  | .set_1_atHL => [0xCB, 0xCE]
  | .set_2_atHL => [0xCB, 0xD6]
  | .set_3_atHL => [0xCB, 0xDE]
  | .set_4_atHL => [0xCB, 0xE6]
  | .set_5_atHL => [0xCB, 0xEE]
  | .set_6_atHL => [0xCB, 0xF6]
  | .set_7_atHL => [0xCB, 0xFE]
  | .set_0_atIXd d => [0xDD, 0xCB, d, 0xC6]
  | .set_1_atIXd d => [0xDD, 0xCB, d, 0xCE]
  | .set_2_atIXd d => [0xDD, 0xCB, d, 0xD6]
  | .set_3_atIXd d => [0xDD, 0xCB, d, 0xDE]
  | .set_4_atIXd d => [0xDD, 0xCB, d, 0xE6]
  | .set_5_atIXd d => [0xDD, 0xCB, d, 0xEE]
  | .set_6_atIXd d => [0xDD, 0xCB, d, 0xF6]
  | .set_7_atIXd d => [0xDD, 0xCB, d, 0xFE]
  | .set_0_atIYd d => [0xFD, 0xCB, d, 0xC6]
  | .set_1_atIYd d => [0xFD, 0xCB, d, 0xCE]
  | .set_2_atIYd d => [0xFD, 0xCB, d, 0xD6]
  | .set_3_atIYd d => [0xFD, 0xCB, d, 0xDE]
  | .set_4_atIYd d => [0xFD, 0xCB, d, 0xE6]
  | .set_5_atIYd d => [0xFD, 0xCB, d, 0xEE]
  | .set_6_atIYd d => [0xFD, 0xCB, d, 0xF6]
  | .set_7_atIYd d => [0xFD, 0xCB, d, 0xFE]
  -- Jumps, calls and returns (47_control.md)
  | .jp_mn mn => [0xC3, loByte mn, hiByte mn]
  | .jp_NZ_mn mn => [0xC2, loByte mn, hiByte mn]
  | .jp_Z_mn mn => [0xCA, loByte mn, hiByte mn]
  | .jp_NC_mn mn => [0xD2, loByte mn, hiByte mn]
  | .jp_C_mn mn => [0xDA, loByte mn, hiByte mn]
  | .jp_LZ_mn mn => [0xE2, loByte mn, hiByte mn]
  | .jp_LO_mn mn => [0xEA, loByte mn, hiByte mn]
  | .jp_P_mn mn => [0xF2, loByte mn, hiByte mn]
  | .jp_M_mn mn => [0xFA, loByte mn, hiByte mn]
  | .jp_atHL => [0xE9]
  | .jp_atIX => [0xDD, 0xE9]
  | .jp_atIY => [0xFD, 0xE9]
  | .jr_e k => [0x18, k]
  | .jr_NZ_e k => [0x20, k]
  | .jr_Z_e k => [0x28, k]
  | .jr_NC_e k => [0x30, k]
  | .jr_C_e k => [0x38, k]
  | .djnz_e k => [0x10, k]
  | .call_mn mn => [0xCD, loByte mn, hiByte mn]
  | .ret => [0xC9]
  | .ret_NZ => [0xC0]
  | .ret_Z => [0xC8]
  | .ret_NC => [0xD0]
  | .ret_C => [0xD8]
  | .ret_LZ => [0xE0]
  | .ret_LO => [0xE8]
  | .ret_P => [0xF0]
  | .ret_M => [0xF8]
  | .lcall_x_mn mn x => [0xCF, loByte mn, hiByte mn, x]
  | .ljp_x_mn mn x => [0xC7, loByte mn, hiByte mn, x]
  | .lret => [0xED, 0x45]
  | .rst_10 => [0xD7]
  | .rst_18 => [0xDF]
  | .rst_20 => [0xE7]
  | .rst_28 => [0xEF]
  | .rst_38 => [0xFF]
  -- Block moves, UMA and UMS (48_block.md)
  | .ldi => [0xED, 0xA0]
  | .ldd => [0xED, 0xA8]
  | .ldir => [0xED, 0xB0]
  | .lddr => [0xED, 0xB8]
  | .ldisr => [0xED, 0x90]
  | .lddsr => [0xED, 0x98]
  | .lsir => [0xED, 0xF0]
  | .lsdr => [0xED, 0xF8]
  | .lsidr => [0xED, 0xD0]
  | .lsddr => [0xED, 0xD8]
  | .uma => [0xED, 0xC0]
  | .ums => [0xED, 0xC8]
  -- NOP, prefix bytes, priority and mode (49_prefix_system.md)
  | .nop => [0x00]
  | .altd => [0x76]
  | .ioi => [0xD3]
  | .ioe => [0xDB]
  | .ipset_0 => [0xED, 0x46]
  | .ipset_1 => [0xED, 0x56]
  | .ipset_2 => [0xED, 0x4E]
  | .ipset_3 => [0xED, 0x5E]
  | .ipres => [0xED, 0x5D]
  | .reti => [0xED, 0x4D]
  | .idet => [0x5B]
  | .rdmode => [0xED, 0x7F]
  | .setusr => [0xED, 0x6F]
  | .sures => [0xED, 0x7D]
  | .syscall => [0xED, 0x75]

/-- The length of an instruction in bytes, without the bytes of ALTD, IOI and IOE before it (30_encoding.md R120). -/
def Instr.size (i : Instr) : Nat := (encode i).length

/-! ## Words of spec/opcode_table.json -/

/-- The low `n` bytes of a number, least significant first. -/
def bytesLE : Nat → Nat → List Byte
  | 0, _ => []
  | n + 1, w => BitVec.ofNat 8 w :: bytesLE n (w / 256)

/-- Six bytes of memory holding a table word: the table's numbers have the FIRST byte most significant (its `match` and
`fixed` entries). Where that reading is no instruction of `nbits` bits, the first byte is taken as the least significant
one (log 30). Every byte behind is 0. -/
def tableBytes (nbits w : Nat) : List Byte :=
  let n := nbits / 8
  let le := bytesLE n w
  let be := le.reverse
  let isRow : Bool :=
    match decode .r3000a be with
    | .ok (i, _) => i.size == n
    | .error _ => false
  (if isRow then be else le) ++ List.replicate (6 - n) 0

/-- The instruction the decoder reads from a word numbered as spec/opcode_table.json numbers it, on the chip that has
every row of the table. -/
def decodeTableWord (nbits w : Nat) : Option Instr :=
  match decode .r3000a (tableBytes nbits w) with
  | .ok (i, _) => some i
  | .error _ => none

end Sys2Proof
end

