-- ==== Sys2Proof/Machine/State.lean ====
section
/-! DEFINITION. The state of the machine (10_state.md R30-R53), what stops it, and its state after reset
(70_reset_and_hazards.md R680). -/

namespace Sys2Proof.Machine

/-- The flags register F (10_state.md R36, R37): four flags and four bits of unknown behaviour, which are bits 5, 4, 3,
1 of the byte in this order. The byte itself is made and read by `Flags.toByte` and `Flags.ofByte`. -/
structure Flags where
  s : Bool
  z : Bool
  lv : Bool
  c : Bool
  other : BitVec 4
deriving DecidableEq, Repr

/-- One register bank: main or alternate (10_state.md R30, R33). -/
structure Bank where
  a : Byte
  f : Flags
  b : Byte
  c : Byte
  d : Byte
  e : Byte
  h : Byte
  l : Byte
deriving DecidableEq, Repr

/-- The prefix context of the instruction being executed (00_scope.md R11) and the address of its first byte, prefix
bytes included (48_block.md R540). Between instructions it is `PrefixCtx.idle` (10_state.md R50; log 11). -/
structure PrefixCtx where
  altd : Bool
  iop : Option IoSpace
  first : Word
deriving DecidableEq, Repr

/-- No instruction is being executed. -/
def PrefixCtx.idle : PrefixCtx := { altd := false, iop := none, first := 0 }

/-- The registers of the platform that the rules read. Their internal I/O addresses are not in the source. -/
inductive PlatReg
  | segsize | dataseg | stackseg | edmr | extControl
deriving DecidableEq, Repr

/-- The platform's registers (20_memory.md R96, R103; 10_state.md R47) and the internal I/O addresses at which the
platform has put them, none unless it says so (log 6). -/
structure Platform where
  segsize : Byte
  dataseg : Byte
  stackseg : Byte
  edmrEnabled : Bool
  extWriteInhibit : Bool
  ports : List (Byte × PlatReg)
deriving DecidableEq, Repr

/-- What `Translate` sees of the processor and the MMU (20_memory.md R95): XPC, SU, the platform's registers and, for MMU
registers the spec does not name, the I/O accesses made so far (log 5). -/
structure MmuView where
  xpc : Byte
  su : Byte
  platform : Platform
  io : List IoEvent
deriving DecidableEq, Repr

/-- The vector table an interrupt enters: IIR's page or EIR's (60_exceptions.md R630). -/
inductive IntClass
  | internal | external
deriving DecidableEq, Repr

/-- A pending interrupt request (60_exceptions.md R630). -/
structure IntRequest where
  prio : BitVec 2
  cls : IntClass
  offset : Byte
deriving DecidableEq, Repr

/-- Physical memory: the bytes that hold a value, by address, addresses strictly rising. An unlisted byte holds no
value (70_reset_and_hazards.md R680, R682; log 3). -/
abbrev Memory := List Host.Cell

/-- The machine. INVENTORY.md, heading State, gives each field's rule and reset value. -/
structure State where
  main : Bank
  alt : Bank
  ix : Word
  iy : Word
  sp : Word
  pc : Word
  xpc : Byte
  iir : Byte
  eir : Byte
  ip : Byte
  su : Byte
  smvPending : Bool
  deferIrq : Bool
  lastHadIoPrefix : Bool
  ctx : PrefixCtx
  platform : Platform
  variant : Variant
  smv : Option IntRequest
  userRestriction : Option Nat
  translation : Option Nat
  mem : Memory
  io : List IoEvent
  irqs : List (List IntRequest)
  draws : Nat
deriving DecidableEq, Repr

/-- The machine has no fault: no instruction raises a synchronous exception and no access fails (60_exceptions.md R620,
R655; 20_memory.md R97). No constructor, so no meaning can stop with one; safe (log 31). -/
inductive Fault
deriving DecidableEq, Repr

/-- Where the spec gives no behaviour and asks the model to stop (00_scope.md R14). -/
inductive Refusal
  /-- Raised by `exec` for an instruction without a meaning; no arm answers it. Safe. -/
  | notModelled (mnemonic : String)
  /-- Raised by the step where the bytes at PC are no instruction of the variant (30_encoding.md R135). Safe. -/
  | undefinedOpcode (bytes : List Byte)
  /-- Raised by ALTD after ALTD (30_encoding.md R127, R142). Safe. -/
  | doubleALTD
  /-- Raised by IOI or IOE after IOI or IOE (30_encoding.md R127, R142). Safe. -/
  | doubleIOPrefix
  /-- Raised by LD SP,mn; LD SP,(mn); INC SP; DEC SP under ALTD (30_encoding.md R144). Safe. -/
  | altdOnSP
  /-- Raised by the step on a Rabbit 2000 for one of the twelve one-byte (HL) instructions directly after an
  instruction with an I/O prefix (70_reset_and_hazards.md R690). Safe. -/
  | r2000IOPrefixBug
deriving DecidableEq, Repr

/-- What a meaning answers. -/
abbrev Exec := Host.Outcome State Fault Refusal

/-- F with every bit clear. -/
def Flags.clear : Flags := { s := false, z := false, lv := false, c := false, other := 0 }

/-- A bank of zeros: the values the model names for registers without a reset value (log 2). -/
def Bank.zero : Bank := { a := 0, f := Flags.clear, b := 0, c := 0, d := 0, e := 0, h := 0, l := 0 }

/-- The platform after reset: MMU registers 0, System/User mode off, external writes inhibited (R680). -/
def Platform.reset : Platform :=
  { segsize := 0, dataseg := 0, stackseg := 0, edmrEnabled := false, extWriteInhibit := true, ports := [] }

/-- The machine right after reset (70_reset_and_hazards.md R680; logs 1, 2, 3, 17). -/
def State.reset : State where
  main := Bank.zero
  alt := Bank.zero
  ix := 0
  iy := 0
  sp := 0
  pc := 0x0000
  xpc := 0x00
  iir := 0x00
  eir := 0x00
  ip := 0xFF
  su := 0x00
  smvPending := false
  deferIrq := false
  lastHadIoPrefix := false
  ctx := PrefixCtx.idle
  platform := Platform.reset
  variant := .r3000a
  smv := none
  userRestriction := none
  translation := none
  mem := []
  io := []
  irqs := []
  draws := 0

end Sys2Proof.Machine
end

