-- ==== Sys2Proof/Machine/Ops.lean ====
section
/-! DEFINITION. The named operations over memory, the I/O spaces, the stack and control, and taking an interrupt and
returning from one (20_memory.md R84-R104, 00_scope.md R13, R14, 60_exceptions.md R622-R642). -/

namespace Sys2Proof

/-- The platforms' mappings, unconstrained: `Translate` is not in the source (20_memory.md R95, D9). DESIGN CHOICE, safe:
log 5. -/
opaque Config.translate : Nat → Machine.MmuView → Word → PhysAddr

end Sys2Proof

namespace Sys2Proof.Machine

/-! ## Memory cells -/

/-- The value the byte at `a` holds, if it holds one. -/
def Memory.byteAt (a : Nat) : Memory → Option Byte
  | [] => none
  | (k, v) :: t => if k = a then some v else Memory.byteAt a t

/-- Make the byte at `a` hold `v`, keeping addresses strictly rising. -/
def Memory.store (a : Nat) (v : Byte) : Memory → Memory
  | [] => [(a, v)]
  | (k, w) :: t =>
    if a < k then (a, v) :: (k, w) :: t
    else if a = k then (a, v) :: t
    else (k, w) :: Memory.store a v t

/-- The canonical form: addresses strictly rising and inside the 2^20 bytes (20_memory.md R91). Every listed byte
differs from an unlisted one, which holds no value (log 3). -/
abbrev Memory.wf (m : Memory) : Prop :=
  m.Pairwise (fun p q => p.1 < q.1) ∧ ∀ p ∈ m, p.1 < 2 ^ 20

/-! ## Physical and logical memory -/

/-- `PhysRead(pa, 1)` (20_memory.md R92): a byte that holds no value answers a free value (R682). -/
def State.physRead (s : State) (pa : PhysAddr) : Byte :=
  (Memory.byteAt pa.toNat s.mem).getD (Config.uninitByte pa.toNat)

/-- `PhysWrite(pa, 1, v)` (20_memory.md R92). -/
def State.physWrite (s : State) (pa : PhysAddr) (v : Byte) : State :=
  { s with mem := Memory.store pa.toNat v s.mem }

/-- The type of the parameter `Translate`: a function of the processor and MMU state and a logical address (00_scope.md R7,
20_memory.md R95). -/
abbrev Translate := MmuView → Word → PhysAddr

/-- The segment register that maps logical address `a` (20_memory.md R96). PRESUMED, unsafe: log 5. -/
def MmuView.segment (v : MmuView) (a : Word) : Byte :=
  let n := a.toNat / 4096
  if 0xE ≤ n then v.xpc
  else if v.platform.segsize.toNat / 16 ≤ n then v.platform.stackseg
  else if v.platform.segsize.toNat % 16 ≤ n then v.platform.dataseg
  else 0

/-- The default instance of `Translate` (20_memory.md R96): `(a + (seg << 12)) mod 2^20`. PRESUMED, unsafe: log 5. -/
def segmentTranslate : Translate := fun v a => a.setWidth 20 + ((v.segment a).setWidth 20 <<< 12)

/-- A platform's instance of `Translate`. It does not see XPC below E000 (20_memory.md R95). -/
def platformTranslate (k : Nat) : Translate := fun v a =>
  Config.translate k (if a.toNat < 0xE000 then { v with xpc := 0 } else v) a

/-- The instance of `Translate` that the state's parameter names: R96's, or a platform's (log 5). -/
def translateOf : Option Nat → Translate
  | none => segmentTranslate
  | some k => platformTranslate k

/-- `Translate(state, a)` (20_memory.md R84, R95), by the parameter in force. -/
def State.translate (s : State) (a : Word) : PhysAddr :=
  translateOf s.translation ⟨s.xpc, s.su, s.platform, s.io⟩ a

/-- `MemRead(a, 1)` (20_memory.md R84). -/
def State.memRead8 (s : State) (a : Word) : Byte := s.physRead (s.translate a)

/-- `MemWrite(a, 1, v)` (20_memory.md R84). -/
def State.memWrite8 (s : State) (a : Word) (v : Byte) : State := s.physWrite (s.translate a) v

/-- `MemRead(a, 2)` (20_memory.md R85). -/
def State.memRead16 (s : State) (a : Word) : Word := mkWord (s.memRead8 (a + 1)) (s.memRead8 a)

/-- `MemWrite(a, 2, v)`, low byte first (20_memory.md R85). -/
def State.memWrite16 (s : State) (a : Word) (v : Word) : State :=
  (s.memWrite8 a (loByte v)).memWrite8 (a + 1) (hiByte v)

/-- The 16-bit read of LDP: both bytes in the 64 KiB page of `p`, no carry out of it (20_memory.md R92, R93). -/
def State.physRead16 (s : State) (p : Byte) (a : Word) : Word :=
  mkWord (s.physRead (physOf p (a + 1))) (s.physRead (physOf p a))

/-- The 16-bit write of LDP (20_memory.md R92, R93). -/
def State.physWrite16 (s : State) (p : Byte) (a : Word) (v : Word) : State :=
  (s.physWrite (physOf p a) (loByte v)).physWrite (physOf p (a + 1)) (hiByte v)

/-! ## I/O -/

/-- A platform register takes the byte written to it. The fields of EDMR and of the external-I/O control are not in
the source: what a byte does there is free (log 6). -/
def Platform.writeReg (p : Platform) (r : PlatReg) (v : Byte) : Platform :=
  match r with
  | .segsize => { p with segsize := v }
  | .dataseg => { p with dataseg := v }
  | .stackseg => { p with stackseg := v }
  | .edmr => { p with edmrEnabled := Config.edmrEnables v }
  | .extControl => { p with extWriteInhibit := Config.extInhibits v }

/-- An internal I/O write reaches the platform register at that address, if the platform has put one there. -/
def Platform.write (p : Platform) (a : Byte) (v : Byte) : Platform :=
  match p.ports.lookup a with
  | some r => p.writeReg r v
  | none => p

/-- The I/O address of a 16-bit address: `a[7:0]` under IOI, all of `a` under IOE (20_memory.md R101, R102). -/
def ioAddr (sp : IoSpace) (a : Word) : Word :=
  match sp with
  | .internal => zext16 (loByte a)
  | .external => a

/-- A byte read from I/O: the device's answer, and the access on record (20_memory.md R101, R102, R90). -/
def State.ioRead8 (s : State) (sp : IoSpace) (a : Word) : Byte × State :=
  let v := Config.ioRead s.io sp (ioAddr sp a)
  (v, { s with io := s.io ++ [.read sp (ioAddr sp a) v] })

/-- A byte write to I/O (20_memory.md R101, R102); while external writes are inhibited an IOE write performs no device
write (R103). -/
def State.ioWrite8 (s : State) (sp : IoSpace) (a : Word) (v : Byte) : State :=
  match sp with
  | .internal =>
    { s with io := s.io ++ [.write .internal (ioAddr .internal a) v],
             platform := s.platform.write (loByte a) v }
  | .external =>
    if s.platform.extWriteInhibit then s
    else { s with io := s.io ++ [.write .external (ioAddr .external a) v] }

/-- `DataRead(a, 1)` (20_memory.md R100-R102). -/
def State.dataRead8 (s : State) (a : Word) : Byte × State :=
  match s.ctx.iop with
  | none => (s.memRead8 a, s)
  | some sp => s.ioRead8 sp a

/-- `DataWrite(a, 1, v)` (20_memory.md R100-R103). -/
def State.dataWrite8 (s : State) (a : Word) (v : Byte) : State :=
  match s.ctx.iop with
  | none => s.memWrite8 a v
  | some sp => s.ioWrite8 sp a v

/-- `DataRead(a, 2)`: low byte first, the second address modulo 2^16 (20_memory.md R85, R101). -/
def State.dataRead16 (s : State) (a : Word) : Word × State :=
  let lo := s.dataRead8 a
  let hi := lo.2.dataRead8 (a + 1)
  (mkWord hi.1 lo.1, hi.2)

/-- `DataWrite(a, 2, v)`: low byte first (20_memory.md R85, R101). -/
def State.dataWrite16 (s : State) (a : Word) (v : Word) : State :=
  (s.dataWrite8 a (loByte v)).dataWrite8 (a + 1) (hiByte v)

/-! ## The stack -/

/-- `Push16(v)` (20_memory.md R86): high byte at SP-1, low byte at SP-2. -/
def State.push16 (s : State) (v : Word) : State :=
  let t := (s.memWrite8 (s.sp - 1) (hiByte v)).memWrite8 (s.sp - 2) (loByte v)
  { t with sp := s.sp - 2 }

/-- One byte pushed (42_stack_exchange.md R304). -/
def State.push8 (s : State) (v : Byte) : State :=
  { s.memWrite8 (s.sp - 1) v with sp := s.sp - 1 }

/-- The word a pop reads: low byte at SP, high byte at SP+1 (20_memory.md R86). -/
def State.top16 (s : State) : Word := s.memRead16 s.sp

/-- The byte a one-byte pop reads. -/
def State.top8 (s : State) : Byte := s.memRead8 s.sp

/-- SP moves up by `n`. -/
def State.dropStack (s : State) (n : Word) : State := { s with sp := s.sp + n }

/-! ## Control -/

/-- `pc <- t` (00_scope.md R14). -/
def State.setPc (s : State) (t : Word) : State := { s with pc := t }

/-- `defer_irq <- true`: the last act of a privileged instruction (60_exceptions.md R626). -/
def State.privileged (s : State) : State := { s with deferIrq := true }

/-! ## Interrupts -/

/-- Push a 2-bit field: `{r[5:0], p}` (60_exceptions.md R623, R642). -/
def pushField (r : Byte) (p : BitVec 2) : Byte := r.extractLsb' 0 6 ++ p

/-- Rotate a stack of 2-bit fields right: `{r[1:0], r[7:2]}` (60_exceptions.md R623, R642). -/
def rotateField (r : Byte) : Byte := r.extractLsb' 0 2 ++ r.extractLsb' 2 6

/-- The current field of a stack of 2-bit fields: `r[1:0]` (10_state.md R44, R45). -/
def currentField (r : Byte) : BitVec 2 := r.extractLsb' 0 2

/-- A request whose priority is above the processor's (60_exceptions.md R622). -/
def State.eligible (s : State) (r : IntRequest) : Bool := decide ((currentField s.ip).toNat < r.prio.toNat)

/-- The first of the requests with the highest priority (60_exceptions.md R631). -/
def firstHighest : List (IntRequest × Bool) → Option (IntRequest × Bool)
  | [] => none
  | r :: t =>
    match firstHighest t with
    | none => some r
    | some q => if q.1.prio.toNat ≤ r.1.prio.toNat then some r else some q

/-- The requests that take part at a boundary, each with whether it is the System Mode Violation: the environment's in
their order, then the pending violation if the platform gives it a priority and a vector (60_exceptions.md R632, R641;
last among equals: log 21). -/
def State.candidates (s : State) (presented : List IntRequest) : List (IntRequest × Bool) :=
  presented.map (fun r => (r, false)) ++
    (if s.smvPending then s.smv.toList.map (fun r => (r, true)) else [])

/-- The request accepted at a boundary, if any (60_exceptions.md R631). -/
def State.accepted (s : State) (presented : List IntRequest) : Option (IntRequest × Bool) :=
  if s.deferIrq then none
  else firstHighest ((s.candidates presented).filter (fun r => s.eligible r.1))

/-- The entry point of a request: `{IIR or EIR, offset}` (60_exceptions.md R633). -/
def State.vector (s : State) (r : IntRequest) : Word :=
  match r.cls with
  | .internal => mkWord s.iir r.offset
  | .external => mkWord s.eir r.offset

/-- The parameter InterruptEntry: what the processor does with an accepted request (60_exceptions.md R633, D34). -/
abbrev EntrySequence := IntRequest → State → State

/-- TAKING AN INTERRUPT, the default of InterruptEntry (60_exceptions.md R633): the return address is pushed, the
priority is pushed on IP, PC goes to the vector, the deferral ends. PRESUMED, unsafe: log 19. -/
def enterInterrupt : EntrySequence := fun r s =>
  { s.push16 s.pc with
    ip := pushField s.ip r.prio
    pc := s.vector r
    deferIrq := false }

/-- An accepted request is entered as the platform says. An accepted System Mode Violation is no longer pending (R640),
and the Rabbit 2000's memory of an I/O prefix is cleared (70_reset_and_hazards.md R690; log 16). -/
def State.takeInterruptBy (s : State) (enter : EntrySequence) (r : IntRequest) (isSmv : Bool) : State :=
  let t := enter r s
  { t with lastHadIoPrefix := false, smvPending := t.smvPending && !isSmv }

/-- An accepted request entered by the default sequence. -/
def State.takeInterrupt (s : State) (r : IntRequest) (isSmv : Bool) : State :=
  s.takeInterruptBy enterInterrupt r isSmv

/-- RETURNING FROM AN INTERRUPT by RETI (49_prefix_system.md R579, 60_exceptions.md R634): IP from (SP), PC from (SP+1)
and (SP+2). -/
def State.returnFromInterrupt (s : State) : State :=
  { s with ip := s.memRead8 s.sp, pc := s.memRead16 (s.sp + 1), sp := s.sp + 3 }

end Sys2Proof.Machine
end

