-- ==== Sys2Proof/Machine/Operands.lean ====
section
/-! DEFINITION. Every operand form: registers and pairs of either bank, destinations under ALTD, index registers and
effective addresses, conditions (00_scope.md R10, R12, R15; 10_state.md R31-R35; 30_encoding.md R123-R126). -/

namespace Sys2Proof.Machine

/-- A byte register of a bank. -/
def Bank.get (k : Bank) : Reg8 → Byte
  | .b => k.b | .c => k.c | .d => k.d | .e => k.e | .h => k.h | .l => k.l | .a => k.a

/-- Write a byte register of a bank. -/
def Bank.set (k : Bank) (r : Reg8) (v : Byte) : Bank :=
  match r with
  | .b => { k with b := v }
  | .c => { k with c := v }
  | .d => { k with d := v }
  | .e => { k with e := v }
  | .h => { k with h := v }
  | .l => { k with l := v }
  | .a => { k with a := v }

/-- A pair of a bank: the first-named register is bits 15..8 (10_state.md R32). -/
def Bank.pair (k : Bank) : Pair → Word
  | .bc => mkWord k.b k.c
  | .de => mkWord k.d k.e
  | .hl => mkWord k.h k.l

/-- Write a pair of a bank: both halves (00_scope.md R10). -/
def Bank.setPair (k : Bank) (p : Pair) (v : Word) : Bank :=
  match p with
  | .bc => { k with b := hiByte v, c := loByte v }
  | .de => { k with d := hiByte v, e := loByte v }
  | .hl => { k with h := hiByte v, l := loByte v }

/-- Main BC. -/
def State.bc (s : State) : Word := s.main.pair .bc

/-- Main DE. -/
def State.de (s : State) : Word := s.main.pair .de

/-- Main HL. -/
def State.hl (s : State) : Word := s.main.pair .hl

/-- Change the bank that destinations go to: alternate under ALTD, else main (00_scope.md R12). -/
def State.updDest (s : State) (f : Bank → Bank) : State :=
  { s with
    main := if s.ctx.altd then s.main else f s.main
    alt := if s.ctx.altd then f s.alt else s.alt }

/-- `Dst8(r) <- v` (00_scope.md R12). -/
def State.dst8 (s : State) (r : Reg8) (v : Byte) : State := s.updDest (fun k => k.set r v)

/-- `Dst16(rr) <- v` for BC, DE, HL (00_scope.md R12). -/
def State.dst16 (s : State) (p : Pair) (v : Word) : State := s.updDest (fun k => k.setPair p v)

/-- Write a pair of the main bank whatever ALTD says. -/
def State.setMainPair (s : State) (p : Pair) (v : Word) : State := { s with main := s.main.setPair p v }

/-- A source of field ss or dd. -/
def State.getDd (s : State) : Dd → Word
  | .bc => s.bc | .de => s.de | .hl => s.hl | .sp => s.sp

/-- A destination of field dd: SP has no alternate, so ALTD on it is refused (30_encoding.md R144). -/
def State.dstDd (s : State) (r : Dd) (v : Word) : Exec :=
  match r with
  | .bc => .next (s.dst16 .bc v)
  | .de => .next (s.dst16 .de v)
  | .hl => .next (s.dst16 .hl v)
  | .sp => if s.ctx.altd then .refused .altdOnSP else .next { s with sp := v }

/-- An index register. -/
def State.idx (s : State) : Idx → Word
  | .ix => s.ix | .iy => s.iy

/-- Write an index register; it has no alternate (10_state.md R33). -/
def State.setIdx (s : State) (x : Idx) (v : Word) : State :=
  { s with ix := if x = .ix then v else s.ix, iy := if x = .iy then v else s.iy }

/-- A source of field xx or yy on the page of index register `x`. -/
def State.getXx (s : State) (x : Idx) : Xx → Word
  | .bc => s.bc | .de => s.de | .self => s.idx x | .sp => s.sp

/-- The effective address of (IX+d) or (IY+d) (30_encoding.md R124). -/
def State.idxAddr (s : State) (x : Idx) (d : Byte) : Word := s.idx x + sext16 d

/-- The effective address of (SP+n), n unsigned (30_encoding.md R125). -/
def State.spAddr (s : State) (n : Byte) : Word := s.sp + zext16 n

/-- The target of a relative jump: PC stands at the next instruction (30_encoding.md R126, 47_control.md R506). -/
def State.relTarget (s : State) (k : Byte) : Word := s.pc + sext16 k

/-- Whether a condition holds, by the main F (00_scope.md R15). -/
def State.cond (s : State) : Cond → Bool
  | .nz => !s.main.f.z | .z => s.main.f.z
  | .nc => !s.main.f.c | .c => s.main.f.c
  | .lz => !s.main.f.lv | .lo => s.main.f.lv
  | .p => !s.main.f.s | .m => s.main.f.s

end Sys2Proof.Machine
end

