-- ==== Sys2Proof/Machine/Flags.lean ====
section
/-! DEFINITION. Every flag computation: the arithmetic, logic and shift helpers with their flags, the byte F, and the
writing of flags under ALTD (10_state.md R36-R38; 43_alu8.md R340-R342; 44_alu16.md R400; 45_rotate_shift.md R440). -/

namespace Sys2Proof.Machine

/-- The byte F: S bit 7, Z bit 6, L/V bit 2, C bit 0 (10_state.md R36). PRESUMED, unsafe: log 7. -/
def Flags.toByte (f : Flags) : Byte :=
  BitVec.ofBool f.s ++ BitVec.ofBool f.z ++ f.other.extractLsb' 1 3 ++ BitVec.ofBool f.lv
    ++ f.other.extractLsb' 0 1 ++ BitVec.ofBool f.c

/-- F from a byte (10_state.md R36). PRESUMED, unsafe: log 7. -/
def Flags.ofByte (b : Byte) : Flags :=
  { s := b.getLsbD 7
    z := b.getLsbD 6
    lv := b.getLsbD 2
    c := b.getLsbD 0
    other := b.extractLsb' 3 3 ++ b.extractLsb' 1 1 }

/-- The flags an instruction writes; `none` is a flag it leaves as it was. -/
structure FlagUpd where
  s : Option Bool := none
  z : Option Bool := none
  lv : Option Bool := none
  c : Option Bool := none
deriving DecidableEq, Repr

/-- F after a flag write: the named flags take their values, the others keep theirs, and the four other bits take the
free value given (10_state.md R37, 00_scope.md R12). -/
def Flags.update (f : Flags) (w : FlagUpd) (free : BitVec 4) : Flags :=
  { s := w.s.getD f.s, z := w.z.getD f.z, lv := w.lv.getD f.lv, c := w.c.getD f.c, other := free }

/-- A flag write in a bank. -/
def Bank.updFlags (k : Bank) (w : FlagUpd) (free : BitVec 4) : Bank := { k with f := k.f.update w free }

/-- `Flags(…)` where the instruction's ALTD mark has F: F' under ALTD, else F (00_scope.md R12). -/
def State.setFlags (s : State) (w : FlagUpd) : State :=
  { s.updDest (fun k => k.updFlags w (Config.flagBits s.draws)) with draws := s.draws + 1 }

/-- `Flags(…)` where the instruction has no F mark: main F whatever ALTD says (00_scope.md R12). -/
def State.setMainFlags (s : State) (w : FlagUpd) : State :=
  { s with main := s.main.updFlags w (Config.flagBits s.draws), draws := s.draws + 1 }

/-! ## 8-bit helpers -/

/-- `ADD8` (43_alu8.md R340). -/
def add8 (a b : Byte) (cin : Bool) : Byte × FlagUpd :=
  let sum := a.toNat + b.toNat + cin.toNat
  let r := BitVec.ofNat 8 sum
  (r, { s := some r.msb, z := some (r == 0), lv := some (a.msb == b.msb && r.msb != a.msb),
        c := some (decide (255 < sum)) })

/-- `SUB8` (43_alu8.md R341). -/
def sub8 (a b : Byte) (bin : Bool) : Byte × FlagUpd :=
  let diff : Int := (a.toNat : Int) - b.toNat - bin.toNat
  let r := BitVec.ofInt 8 diff
  (r, { s := some r.msb, z := some (r == 0), lv := some (a.msb != b.msb && r.msb != a.msb),
        c := some (decide (diff < 0)) })

/-- The logical check of an 8-bit result: `r[7:4] != 0` (43_alu8.md R342). -/
def logical8 (r : Byte) : Bool := r.extractLsb' 4 4 != 0

/-- `LOGIC8` (43_alu8.md R342). -/
def logic8 (r : Byte) : Byte × FlagUpd :=
  (r, { s := some r.msb, z := some (r == 0), lv := some (logical8 r), c := some false })

/-- The operation of the 8-bit arithmetic group on A and an operand (43_alu8.md R343-R382); CP subtracts. -/
def alu8 (op : AluOp) (a x : Byte) (cin : Bool) : Byte × FlagUpd :=
  match op with
  | .add => add8 a x false
  | .adc => add8 a x cin
  | .sub => sub8 a x false
  | .sbc => sub8 a x cin
  | .and => logic8 (a &&& x)
  | .xor => logic8 (a ^^^ x)
  | .or => logic8 (a ||| x)
  | .cp => sub8 a x false

/-- INC: `ADD8(x, 1, 0)`, C not written (43_alu8.md R383). -/
def inc8 (x : Byte) : Byte × FlagUpd :=
  let r := add8 x 1 false
  (r.1, { r.2 with c := none })

/-- DEC: `SUB8(x, 1, 0)`, C not written (43_alu8.md R387). -/
def dec8 (x : Byte) : Byte × FlagUpd :=
  let r := sub8 x 1 false
  (r.1, { r.2 with c := none })

/-! ## 16-bit helpers -/

/-- `ADD16` (44_alu16.md R400). -/
def add16 (a b : Word) (cin : Bool) : Word × FlagUpd :=
  let sum := a.toNat + b.toNat + cin.toNat
  let r := BitVec.ofNat 16 sum
  (r, { s := some r.msb, z := some (r == 0), lv := some (a.msb == b.msb && r.msb != a.msb),
        c := some (decide (65535 < sum)) })

/-- `SUB16` (44_alu16.md R400). -/
def sub16 (a b : Word) (bin : Bool) : Word × FlagUpd :=
  let diff : Int := (a.toNat : Int) - b.toNat - bin.toNat
  let r := BitVec.ofInt 16 diff
  (r, { s := some r.msb, z := some (r == 0), lv := some (a.msb != b.msb && r.msb != a.msb),
        c := some (decide (diff < 0)) })

/-- The logical check of a 16-bit result: `r[15:12] != 0` (44_alu16.md R400). -/
def logical16 (r : Word) : Bool := r.extractLsb' 12 4 != 0

/-- `LOGIC16` (44_alu16.md R400). -/
def logic16 (r : Word) : FlagUpd :=
  { s := some r.msb, z := some (r == 0), lv := some (logical16 r), c := some false }

/-- BOOL: 1 for a value that is not 0 (44_alu16.md R413). -/
def bool16 (v : Word) : Word := if v = 0 then 0 else 1

/-- The flags of BOOL: S, L/V and C cleared, Z by the result (44_alu16.md R413). -/
def boolFlags (r : Word) : FlagUpd :=
  { s := some false, z := some (r == 0), lv := some false, c := some false }

/-! ## Rotates and shifts -/

/-- A rotate or shift of a byte: the result and the bit shifted out (45_rotate_shift.md R445-R472). -/
def rot8 (op : RotOp) (x : Byte) (cin : Bool) : Byte × Bool :=
  match op with
  | .rlc => (x.extractLsb' 0 7 ++ BitVec.ofBool x.msb, x.msb)
  | .rl => (x.extractLsb' 0 7 ++ BitVec.ofBool cin, x.msb)
  | .sla => (x.extractLsb' 0 7 ++ BitVec.ofBool false, x.msb)
  | .rrc => (BitVec.ofBool (x.getLsbD 0) ++ x.extractLsb' 1 7, x.getLsbD 0)
  | .rr => (BitVec.ofBool cin ++ x.extractLsb' 1 7, x.getLsbD 0)
  | .sra => (BitVec.ofBool x.msb ++ x.extractLsb' 1 7, x.getLsbD 0)
  | .srl => (BitVec.ofBool false ++ x.extractLsb' 1 7, x.getLsbD 0)

/-- `SHIFTFLAGS8` (45_rotate_shift.md R440). -/
def shiftFlags8 (r : Byte) (c : Bool) : FlagUpd :=
  { s := some r.msb, z := some (r == 0), lv := some (logical8 r), c := some c }

/-- RL of a word through carry: `{w[14:0], cin}` and bit 15 (45_rotate_shift.md R473). -/
def rl16 (w : Word) (cin : Bool) : Word × Bool := (w.extractLsb' 0 15 ++ BitVec.ofBool cin, w.msb)

/-- RR of a word through carry: `{cin, w[15:1]}` and bit 0 (45_rotate_shift.md R474). -/
def rr16 (w : Word) (cin : Bool) : Word × Bool := (BitVec.ofBool cin ++ w.extractLsb' 1 15, w.getLsbD 0)

/-- `SHIFTFLAGS16` (45_rotate_shift.md R440). -/
def shiftFlags16 (r : Word) (c : Bool) : FlagUpd :=
  { s := some r.msb, z := some (r == 0), lv := some (logical16 r), c := some c }

/-- `bit(b)`: the byte `1 << b` (46_bit.md). -/
def bitMask (b : BitNo) : Byte := 1#8 <<< b.toNat

end Sys2Proof.Machine
end

