-- ==== Sys2Proof/Machine/Alu16.lean ====
section
/-! DEFINITION. The 16-bit arithmetic and logic instructions (44_alu16.md R401-R422). -/

namespace Sys2Proof.Machine

/-! ## Operations of the family -/

/-- ADD HL,ss (R401): only C is written. -/
def addHLSs (r : Dd) (s : State) : Exec :=
  let v := add16 s.hl (s.getDd r) false
  .next ((s.dst16 .hl v.1).setFlags { c := v.2.c })

/-- ADD IX,xx and ADD IY,yy (R402, R403): only C is written. -/
def addIdx (x : Idx) (r : Xx) (s : State) : Exec :=
  let v := add16 (s.idx x) (s.getXx x r) false
  .next ((s.setIdx x v.1).setFlags { c := v.2.c })

/-- ADC HL,ss (R405). -/
def adcHLSs (r : Dd) (s : State) : Exec :=
  let v := add16 s.hl (s.getDd r) s.main.f.c
  .next ((s.dst16 .hl v.1).setFlags v.2)

/-- SBC HL,ss (R406). -/
def sbcHLSs (r : Dd) (s : State) : Exec :=
  let v := sub16 s.hl (s.getDd r) s.main.f.c
  .next ((s.dst16 .hl v.1).setFlags v.2)

/-- AND IX,DE and AND IY,DE (R408, R409). -/
def andIdxDE (x : Idx) (s : State) : Exec :=
  let v := s.idx x &&& s.de
  .next ((s.setIdx x v).setFlags (logic16 v))

/-- OR IX,DE and OR IY,DE (R411, R412). -/
def orIdxDE (x : Idx) (s : State) : Exec :=
  let v := s.idx x ||| s.de
  .next ((s.setIdx x v).setFlags (logic16 v))

/-- BOOL IX and BOOL IY (R414, R415). -/
def boolIdx (x : Idx) (s : State) : Exec :=
  let v := bool16 (s.idx x)
  .next ((s.setIdx x v).setFlags (boolFlags v))

/-- INC ss (R416): no flag; ALTD on SP is refused. -/
def incSs (r : Dd) (s : State) : Exec := s.dstDd r (s.getDd r + 1)

/-- DEC ss (R419): no flag; ALTD on SP is refused. -/
def decSs (r : Dd) (s : State) : Exec := s.dstDd r (s.getDd r - 1)

/-- INC IX and INC IY (R417, R418). -/
def incIdx (x : Idx) (s : State) : Exec := .next (s.setIdx x (s.idx x + 1))

/-- DEC IX and DEC IY (R420, R421). -/
def decIdx (x : Idx) (s : State) : Exec := .next (s.setIdx x (s.idx x - 1))

/-- The 32-bit product of MUL (R422). -/
def mul32 (a b : Word) : BitVec 32 := BitVec.ofInt 32 (a.toInt * b.toInt)

/-! ## The rows -/

/-- ADD HL,BC (R401). -/
def execAdd_HL_BC (s : State) : Exec := addHLSs .bc s

/-- ADD HL,DE (R401). -/
def execAdd_HL_DE (s : State) : Exec := addHLSs .de s

/-- ADD HL,HL (R401). -/
def execAdd_HL_HL (s : State) : Exec := addHLSs .hl s

/-- ADD HL,SP (R401). -/
def execAdd_HL_SP (s : State) : Exec := addHLSs .sp s

/-- ADD IX,BC (R402). -/
def execAdd_IX_BC (s : State) : Exec := addIdx .ix .bc s

/-- ADD IX,DE (R402). -/
def execAdd_IX_DE (s : State) : Exec := addIdx .ix .de s

/-- ADD IX,IX (R402). -/
def execAdd_IX_IX (s : State) : Exec := addIdx .ix .self s

/-- ADD IX,SP (R402). -/
def execAdd_IX_SP (s : State) : Exec := addIdx .ix .sp s

/-- ADD IY,BC (R403). -/
def execAdd_IY_BC (s : State) : Exec := addIdx .iy .bc s

/-- ADD IY,DE (R403). -/
def execAdd_IY_DE (s : State) : Exec := addIdx .iy .de s

/-- ADD IY,IY (R403). -/
def execAdd_IY_IY (s : State) : Exec := addIdx .iy .self s

/-- ADD IY,SP (R403). -/
def execAdd_IY_SP (s : State) : Exec := addIdx .iy .sp s

/-- ADD SP,d (R404): C is the carry out of bit 15; SP is written under ALTD too, not privileged. -/
def execAdd_SP_d (d : Byte) (s : State) : Exec :=
  let v := add16 s.sp (sext16 d) false
  .next ({ s with sp := v.1 }.setFlags { c := v.2.c })

/-- ADC HL,BC (R405). -/
def execAdc_HL_BC (s : State) : Exec := adcHLSs .bc s

/-- ADC HL,DE (R405). -/
def execAdc_HL_DE (s : State) : Exec := adcHLSs .de s

/-- ADC HL,HL (R405). -/
def execAdc_HL_HL (s : State) : Exec := adcHLSs .hl s

/-- ADC HL,SP (R405). -/
def execAdc_HL_SP (s : State) : Exec := adcHLSs .sp s

/-- SBC HL,BC (R406). -/
def execSbc_HL_BC (s : State) : Exec := sbcHLSs .bc s

/-- SBC HL,DE (R406). -/
def execSbc_HL_DE (s : State) : Exec := sbcHLSs .de s

/-- SBC HL,HL (R406). -/
def execSbc_HL_HL (s : State) : Exec := sbcHLSs .hl s

/-- SBC HL,SP (R406). -/
def execSbc_HL_SP (s : State) : Exec := sbcHLSs .sp s

/-- AND HL,DE (R407). -/
def execAnd_HL_DE (s : State) : Exec :=
  let v := s.hl &&& s.de
  .next ((s.dst16 .hl v).setFlags (logic16 v))

/-- AND IX,DE (R408). -/
def execAnd_IX_DE (s : State) : Exec := andIdxDE .ix s

/-- AND IY,DE (R409). -/
def execAnd_IY_DE (s : State) : Exec := andIdxDE .iy s

/-- OR HL,DE (R410). -/
def execOr_HL_DE (s : State) : Exec :=
  let v := s.hl ||| s.de
  .next ((s.dst16 .hl v).setFlags (logic16 v))

/-- OR IX,DE (R411). -/
def execOr_IX_DE (s : State) : Exec := orIdxDE .ix s

/-- OR IY,DE (R412). -/
def execOr_IY_DE (s : State) : Exec := orIdxDE .iy s

/-- BOOL HL (R413). -/
def execBool_HL (s : State) : Exec :=
  let v := bool16 s.hl
  .next ((s.dst16 .hl v).setFlags (boolFlags v))

/-- BOOL IX (R414). -/
def execBool_IX (s : State) : Exec := boolIdx .ix s

/-- BOOL IY (R415). -/
def execBool_IY (s : State) : Exec := boolIdx .iy s

/-- INC BC (R416). -/
def execInc_BC (s : State) : Exec := incSs .bc s

/-- INC DE (R416). -/
def execInc_DE (s : State) : Exec := incSs .de s

/-- INC HL (R416). -/
def execInc_HL (s : State) : Exec := incSs .hl s

/-- INC SP (R416). -/
def execInc_SP (s : State) : Exec := incSs .sp s

/-- INC IX (R417). -/
def execInc_IX (s : State) : Exec := incIdx .ix s

/-- INC IY (R418). -/
def execInc_IY (s : State) : Exec := incIdx .iy s

/-- DEC BC (R419). -/
def execDec_BC (s : State) : Exec := decSs .bc s

/-- DEC DE (R419). -/
def execDec_DE (s : State) : Exec := decSs .de s

/-- DEC HL (R419). -/
def execDec_HL (s : State) : Exec := decSs .hl s

/-- DEC SP (R419). -/
def execDec_SP (s : State) : Exec := decSs .sp s

/-- DEC IX (R420). -/
def execDec_IX (s : State) : Exec := decIdx .ix s

/-- DEC IY (R421). -/
def execDec_IY (s : State) : Exec := decIdx .iy s

/-- MUL (R422): bits 31..16 of the product to main HL, bits 15..0 to main BC; no flag, no ALTD mark. -/
def execMul (s : State) : Exec :=
  let p := mul32 s.bc s.de
  .next ((s.setMainPair .hl (p.extractLsb' 16 16)).setMainPair .bc (p.extractLsb' 0 16))

end Sys2Proof.Machine
end

