-- ==== Sys2Proof/Machine/Alu8.lean ====
section
/-! DEFINITION. The 8-bit arithmetic and logic instructions (43_alu8.md R343-R394). -/

namespace Sys2Proof.Machine

/-! ## Operations of the family -/

/-- An operation of the group on A and an operand: result to A unless it is CP, flags, both under ALTD (R343-R382). -/
def aluA (op : AluOp) (x : Byte) (s : State) : State :=
  let r := alu8 op s.main.a x s.main.f.c
  match op with
  | .cp => s.setFlags r.2
  | _ => (s.dst8 .a r.1).setFlags r.2

/-- With a register operand (R343, R348, R353, R358, R363, R368, R373, R378). -/
def aluR (op : AluOp) (r : Reg8) (s : State) : Exec := .next (aluA op (s.main.get r) s)

/-- With an immediate operand (R344, R349, R354, R359, R364, R369, R374, R379). -/
def aluN (op : AluOp) (n : Byte) (s : State) : Exec := .next (aluA op n s)

/-- With a memory or I/O operand. -/
def aluMem (op : AluOp) (a : Word) (s : State) : Exec :=
  let rd := s.dataRead8 a
  .next (aluA op rd.1 rd.2)

/-- With (HL) (R345, R350, R355, R360, R365, R370, R375, R380). -/
def aluAtHL (op : AluOp) (s : State) : Exec := aluMem op s.hl s

/-- With (IX+d) or (IY+d) (R346, R347, R351, R352, R356, R357, R361, R362, R366, R367, R371, R372, R376, R377, R381,
R382). -/
def aluAtIdx (op : AluOp) (x : Idx) (d : Byte) (s : State) : Exec := aluMem op (s.idxAddr x d) s

/-- INC r (R383). -/
def incR (r : Reg8) (s : State) : Exec :=
  let v := inc8 (s.main.get r)
  .next ((s.dst8 r v.1).setFlags v.2)

/-- DEC r (R387). -/
def decR (r : Reg8) (s : State) : Exec :=
  let v := dec8 (s.main.get r)
  .next ((s.dst8 r v.1).setFlags v.2)

/-- INC of a memory or I/O operand: read, compute, write, flags (R384-R386). -/
def incMem (a : Word) (s : State) : Exec :=
  let rd := s.dataRead8 a
  let v := inc8 rd.1
  .next ((rd.2.dataWrite8 a v.1).setFlags v.2)

/-- DEC of a memory or I/O operand (R388-R390). -/
def decMem (a : Word) (s : State) : Exec :=
  let rd := s.dataRead8 a
  let v := dec8 rd.1
  .next ((rd.2.dataWrite8 a v.1).setFlags v.2)

/-- INC (IX+d) and INC (IY+d) (R385, R386). -/
def incAtIdx (x : Idx) (d : Byte) (s : State) : Exec := incMem (s.idxAddr x d) s

/-- DEC (IX+d) and DEC (IY+d) (R389, R390). -/
def decAtIdx (x : Idx) (d : Byte) (s : State) : Exec := decMem (s.idxAddr x d) s

/-! ## The rows -/

/-- ADD A,B (R343). -/
def execAdd_A_B (s : State) : Exec := aluR .add .b s

/-- ADD A,C (R343). -/
def execAdd_A_C (s : State) : Exec := aluR .add .c s

/-- ADD A,D (R343). -/
def execAdd_A_D (s : State) : Exec := aluR .add .d s

/-- ADD A,E (R343). -/
def execAdd_A_E (s : State) : Exec := aluR .add .e s

/-- ADD A,H (R343). -/
def execAdd_A_H (s : State) : Exec := aluR .add .h s

/-- ADD A,L (R343). -/
def execAdd_A_L (s : State) : Exec := aluR .add .l s

/-- ADD A,A (R343). -/
def execAdd_A_A (s : State) : Exec := aluR .add .a s

/-- ADD A,n (R344). -/
def execAdd_A_n (n : Byte) (s : State) : Exec := aluN .add n s

/-- ADD A,(HL) (R345). -/
def execAdd_A_atHL (s : State) : Exec := aluAtHL .add s

/-- ADD A,(IX+d) (R346). -/
def execAdd_A_atIXd (d : Byte) (s : State) : Exec := aluAtIdx .add .ix d s

/-- ADD A,(IY+d) (R347). -/
def execAdd_A_atIYd (d : Byte) (s : State) : Exec := aluAtIdx .add .iy d s

/-- ADC A,B (R348). -/
def execAdc_A_B (s : State) : Exec := aluR .adc .b s

/-- ADC A,C (R348). -/
def execAdc_A_C (s : State) : Exec := aluR .adc .c s

/-- ADC A,D (R348). -/
def execAdc_A_D (s : State) : Exec := aluR .adc .d s

/-- ADC A,E (R348). -/
def execAdc_A_E (s : State) : Exec := aluR .adc .e s

/-- ADC A,H (R348). -/
def execAdc_A_H (s : State) : Exec := aluR .adc .h s

/-- ADC A,L (R348). -/
def execAdc_A_L (s : State) : Exec := aluR .adc .l s

/-- ADC A,A (R348). -/
def execAdc_A_A (s : State) : Exec := aluR .adc .a s

/-- ADC A,n (R349). -/
def execAdc_A_n (n : Byte) (s : State) : Exec := aluN .adc n s

/-- ADC A,(HL) (R350). -/
def execAdc_A_atHL (s : State) : Exec := aluAtHL .adc s

/-- ADC A,(IX+d) (R351). -/
def execAdc_A_atIXd (d : Byte) (s : State) : Exec := aluAtIdx .adc .ix d s

/-- ADC A,(IY+d) (R352). -/
def execAdc_A_atIYd (d : Byte) (s : State) : Exec := aluAtIdx .adc .iy d s

/-- SUB B (R353). -/
def execSub_B (s : State) : Exec := aluR .sub .b s

/-- SUB C (R353). -/
def execSub_C (s : State) : Exec := aluR .sub .c s

/-- SUB D (R353). -/
def execSub_D (s : State) : Exec := aluR .sub .d s

/-- SUB E (R353). -/
def execSub_E (s : State) : Exec := aluR .sub .e s

/-- SUB H (R353). -/
def execSub_H (s : State) : Exec := aluR .sub .h s

/-- SUB L (R353). -/
def execSub_L (s : State) : Exec := aluR .sub .l s

/-- SUB A (R353). -/
def execSub_A (s : State) : Exec := aluR .sub .a s

/-- SUB n (R354). -/
def execSub_n (n : Byte) (s : State) : Exec := aluN .sub n s

/-- SUB (HL) (R355). -/
def execSub_atHL (s : State) : Exec := aluAtHL .sub s

/-- SUB (IX+d) (R356). -/
def execSub_atIXd (d : Byte) (s : State) : Exec := aluAtIdx .sub .ix d s

/-- SUB (IY+d) (R357). -/
def execSub_atIYd (d : Byte) (s : State) : Exec := aluAtIdx .sub .iy d s

/-- SBC A,B (R358). -/
def execSbc_A_B (s : State) : Exec := aluR .sbc .b s

/-- SBC A,C (R358). -/
def execSbc_A_C (s : State) : Exec := aluR .sbc .c s

/-- SBC A,D (R358). -/
def execSbc_A_D (s : State) : Exec := aluR .sbc .d s

/-- SBC A,E (R358). -/
def execSbc_A_E (s : State) : Exec := aluR .sbc .e s

/-- SBC A,H (R358). -/
def execSbc_A_H (s : State) : Exec := aluR .sbc .h s

/-- SBC A,L (R358). -/
def execSbc_A_L (s : State) : Exec := aluR .sbc .l s

/-- SBC A,A (R358). -/
def execSbc_A_A (s : State) : Exec := aluR .sbc .a s

/-- SBC A,n (R359). -/
def execSbc_A_n (n : Byte) (s : State) : Exec := aluN .sbc n s

/-- SBC A,(HL) (R360). -/
def execSbc_A_atHL (s : State) : Exec := aluAtHL .sbc s

/-- SBC A,(IX+d) (R361). -/
def execSbc_A_atIXd (d : Byte) (s : State) : Exec := aluAtIdx .sbc .ix d s

/-- SBC A,(IY+d) (R362). -/
def execSbc_A_atIYd (d : Byte) (s : State) : Exec := aluAtIdx .sbc .iy d s

/-- AND B (R363). -/
def execAnd_B (s : State) : Exec := aluR .and .b s

/-- AND C (R363). -/
def execAnd_C (s : State) : Exec := aluR .and .c s

/-- AND D (R363). -/
def execAnd_D (s : State) : Exec := aluR .and .d s

/-- AND E (R363). -/
def execAnd_E (s : State) : Exec := aluR .and .e s

/-- AND H (R363). -/
def execAnd_H (s : State) : Exec := aluR .and .h s

/-- AND L (R363). -/
def execAnd_L (s : State) : Exec := aluR .and .l s

/-- AND A (R363). -/
def execAnd_A (s : State) : Exec := aluR .and .a s

/-- AND n (R364). -/
def execAnd_n (n : Byte) (s : State) : Exec := aluN .and n s

/-- AND (HL) (R365). -/
def execAnd_atHL (s : State) : Exec := aluAtHL .and s

/-- AND (IX+d) (R366). -/
def execAnd_atIXd (d : Byte) (s : State) : Exec := aluAtIdx .and .ix d s

/-- AND (IY+d) (R367). -/
def execAnd_atIYd (d : Byte) (s : State) : Exec := aluAtIdx .and .iy d s

/-- OR B (R368). -/
def execOr_B (s : State) : Exec := aluR .or .b s

/-- OR C (R368). -/
def execOr_C (s : State) : Exec := aluR .or .c s

/-- OR D (R368). -/
def execOr_D (s : State) : Exec := aluR .or .d s

/-- OR E (R368). -/
def execOr_E (s : State) : Exec := aluR .or .e s

/-- OR H (R368). -/
def execOr_H (s : State) : Exec := aluR .or .h s

/-- OR L (R368). -/
def execOr_L (s : State) : Exec := aluR .or .l s

/-- OR A (R368). -/
def execOr_A (s : State) : Exec := aluR .or .a s

/-- OR n (R369). -/
def execOr_n (n : Byte) (s : State) : Exec := aluN .or n s

/-- OR (HL) (R370). -/
def execOr_atHL (s : State) : Exec := aluAtHL .or s

/-- OR (IX+d) (R371). -/
def execOr_atIXd (d : Byte) (s : State) : Exec := aluAtIdx .or .ix d s

/-- OR (IY+d) (R372). -/
def execOr_atIYd (d : Byte) (s : State) : Exec := aluAtIdx .or .iy d s

/-- XOR B (R373). -/
def execXor_B (s : State) : Exec := aluR .xor .b s

/-- XOR C (R373). -/
def execXor_C (s : State) : Exec := aluR .xor .c s

/-- XOR D (R373). -/
def execXor_D (s : State) : Exec := aluR .xor .d s

/-- XOR E (R373). -/
def execXor_E (s : State) : Exec := aluR .xor .e s

/-- XOR H (R373). -/
def execXor_H (s : State) : Exec := aluR .xor .h s

/-- XOR L (R373). -/
def execXor_L (s : State) : Exec := aluR .xor .l s

/-- XOR A (R373). -/
def execXor_A (s : State) : Exec := aluR .xor .a s

/-- XOR n (R374). -/
def execXor_n (n : Byte) (s : State) : Exec := aluN .xor n s

/-- XOR (HL) (R375). -/
def execXor_atHL (s : State) : Exec := aluAtHL .xor s

/-- XOR (IX+d) (R376). -/
def execXor_atIXd (d : Byte) (s : State) : Exec := aluAtIdx .xor .ix d s

/-- XOR (IY+d) (R377). -/
def execXor_atIYd (d : Byte) (s : State) : Exec := aluAtIdx .xor .iy d s

/-- CP B (R378). -/
def execCp_B (s : State) : Exec := aluR .cp .b s

/-- CP C (R378). -/
def execCp_C (s : State) : Exec := aluR .cp .c s

/-- CP D (R378). -/
def execCp_D (s : State) : Exec := aluR .cp .d s

/-- CP E (R378). -/
def execCp_E (s : State) : Exec := aluR .cp .e s

/-- CP H (R378). -/
def execCp_H (s : State) : Exec := aluR .cp .h s

/-- CP L (R378). -/
def execCp_L (s : State) : Exec := aluR .cp .l s

/-- CP A (R378). -/
def execCp_A (s : State) : Exec := aluR .cp .a s

/-- CP n (R379). -/
def execCp_n (n : Byte) (s : State) : Exec := aluN .cp n s

/-- CP (HL) (R380). -/
def execCp_atHL (s : State) : Exec := aluAtHL .cp s

/-- CP (IX+d) (R381). -/
def execCp_atIXd (d : Byte) (s : State) : Exec := aluAtIdx .cp .ix d s

/-- CP (IY+d) (R382). -/
def execCp_atIYd (d : Byte) (s : State) : Exec := aluAtIdx .cp .iy d s

/-- INC B (R383). -/
def execInc_B (s : State) : Exec := incR .b s

/-- INC C (R383). -/
def execInc_C (s : State) : Exec := incR .c s

/-- INC D (R383). -/
def execInc_D (s : State) : Exec := incR .d s

/-- INC E (R383). -/
def execInc_E (s : State) : Exec := incR .e s

/-- INC H (R383). -/
def execInc_H (s : State) : Exec := incR .h s

/-- INC L (R383). -/
def execInc_L (s : State) : Exec := incR .l s

/-- INC A (R383). -/
def execInc_A (s : State) : Exec := incR .a s

/-- INC (HL) (R384). -/
def execInc_atHL (s : State) : Exec := incMem s.hl s

/-- INC (IX+d) (R385). -/
def execInc_atIXd (d : Byte) (s : State) : Exec := incAtIdx .ix d s

/-- INC (IY+d) (R386). -/
def execInc_atIYd (d : Byte) (s : State) : Exec := incAtIdx .iy d s

/-- DEC B (R387). -/
def execDec_B (s : State) : Exec := decR .b s

/-- DEC C (R387). -/
def execDec_C (s : State) : Exec := decR .c s

/-- DEC D (R387). -/
def execDec_D (s : State) : Exec := decR .d s

/-- DEC E (R387). -/
def execDec_E (s : State) : Exec := decR .e s

/-- DEC H (R387). -/
def execDec_H (s : State) : Exec := decR .h s

/-- DEC L (R387). -/
def execDec_L (s : State) : Exec := decR .l s

/-- DEC A (R387). -/
def execDec_A (s : State) : Exec := decR .a s

/-- DEC (HL) (R388). -/
def execDec_atHL (s : State) : Exec := decMem s.hl s

/-- DEC (IX+d) (R389). -/
def execDec_atIXd (d : Byte) (s : State) : Exec := decAtIdx .ix d s

/-- DEC (IY+d) (R390). -/
def execDec_atIYd (d : Byte) (s : State) : Exec := decAtIdx .iy d s

/-- NEG (R391): `SUB8(0, A, 0)`. -/
def execNeg (s : State) : Exec :=
  let r := sub8 0 s.main.a false
  .next ((s.dst8 .a r.1).setFlags r.2)

/-- CPL (R392). -/
def execCpl (s : State) : Exec := .next (s.dst8 .a (~~~s.main.a))

/-- CCF (R393): the complement of main F.C, to F'.C under ALTD. -/
def execCcf (s : State) : Exec := .next (s.setFlags { c := some (!s.main.f.c) })

/-- SCF (R394). -/
def execScf (s : State) : Exec := .next (s.setFlags { c := some true })

end Sys2Proof.Machine
end

