-- ==== Sys2Proof/Machine/Bit.lean ====
section
/-! DEFINITION. The bit test, reset and set instructions (46_bit.md R481-R492). -/

namespace Sys2Proof.Machine

/-! ## Operations of the family -/

/-- The flag BIT writes: Z, 1 if the bit is 0 (R481). -/
def bitFlags (b : BitNo) (x : Byte) : FlagUpd := { z := some (x &&& bitMask b == 0) }

/-- BIT b,r (R481). -/
def bitR (b : BitNo) (r : Reg8) (s : State) : Exec := .next (s.setFlags (bitFlags b (s.main.get r)))

/-- BIT of a memory or I/O operand. -/
def bitMem (b : BitNo) (a : Word) (s : State) : State :=
  let rd := s.dataRead8 a
  rd.2.setFlags (bitFlags b rd.1)

/-- BIT b,(HL) (R482), privileged. -/
def bitAtHL (b : BitNo) (s : State) : Exec := .next (bitMem b s.hl s).privileged

/-- BIT b,(IX+d) and BIT b,(IY+d) (R483, R484), not privileged. -/
def bitAtIdx (b : BitNo) (x : Idx) (d : Byte) (s : State) : Exec := .next (bitMem b (s.idxAddr x d) s)

/-- RES b,r (R485). -/
def resR (b : BitNo) (r : Reg8) (s : State) : Exec := .next (s.dst8 r (s.main.get r &&& ~~~bitMask b))

/-- RES of a memory or I/O operand: read and write in the same space (R486, D26). -/
def resMem (b : BitNo) (a : Word) (s : State) : Exec :=
  let rd := s.dataRead8 a
  .next (rd.2.dataWrite8 a (rd.1 &&& ~~~bitMask b))

/-- RES b,(HL) (R486). -/
def resAtHL (b : BitNo) (s : State) : Exec := resMem b s.hl s

/-- RES b,(IX+d) and RES b,(IY+d) (R487, R488). -/
def resAtIdx (b : BitNo) (x : Idx) (d : Byte) (s : State) : Exec := resMem b (s.idxAddr x d) s

/-- SET b,r (R489). -/
def setR (b : BitNo) (r : Reg8) (s : State) : Exec := .next (s.dst8 r (s.main.get r ||| bitMask b))

/-- SET of a memory or I/O operand (R490). -/
def setMem (b : BitNo) (a : Word) (s : State) : Exec :=
  let rd := s.dataRead8 a
  .next (rd.2.dataWrite8 a (rd.1 ||| bitMask b))

/-- SET b,(HL) (R490). -/
def setAtHL (b : BitNo) (s : State) : Exec := setMem b s.hl s

/-- SET b,(IX+d) and SET b,(IY+d) (R491, R492). -/
def setAtIdx (b : BitNo) (x : Idx) (d : Byte) (s : State) : Exec := setMem b (s.idxAddr x d) s

/-! ## The rows -/

/-- BIT 0,B (R481). -/
def execBit_0_B (s : State) : Exec := bitR .b0 .b s

/-- BIT 0,C (R481). -/
def execBit_0_C (s : State) : Exec := bitR .b0 .c s

/-- BIT 0,D (R481). -/
def execBit_0_D (s : State) : Exec := bitR .b0 .d s

/-- BIT 0,E (R481). -/
def execBit_0_E (s : State) : Exec := bitR .b0 .e s

/-- BIT 0,H (R481). -/
def execBit_0_H (s : State) : Exec := bitR .b0 .h s

/-- BIT 0,L (R481). -/
def execBit_0_L (s : State) : Exec := bitR .b0 .l s

/-- BIT 0,A (R481). -/
def execBit_0_A (s : State) : Exec := bitR .b0 .a s

/-- BIT 1,B (R481). -/
def execBit_1_B (s : State) : Exec := bitR .b1 .b s

/-- BIT 1,C (R481). -/
def execBit_1_C (s : State) : Exec := bitR .b1 .c s

/-- BIT 1,D (R481). -/
def execBit_1_D (s : State) : Exec := bitR .b1 .d s

/-- BIT 1,E (R481). -/
def execBit_1_E (s : State) : Exec := bitR .b1 .e s

/-- BIT 1,H (R481). -/
def execBit_1_H (s : State) : Exec := bitR .b1 .h s

/-- BIT 1,L (R481). -/
def execBit_1_L (s : State) : Exec := bitR .b1 .l s

/-- BIT 1,A (R481). -/
def execBit_1_A (s : State) : Exec := bitR .b1 .a s

/-- BIT 2,B (R481). -/
def execBit_2_B (s : State) : Exec := bitR .b2 .b s

/-- BIT 2,C (R481). -/
def execBit_2_C (s : State) : Exec := bitR .b2 .c s

/-- BIT 2,D (R481). -/
def execBit_2_D (s : State) : Exec := bitR .b2 .d s

/-- BIT 2,E (R481). -/
def execBit_2_E (s : State) : Exec := bitR .b2 .e s

/-- BIT 2,H (R481). -/
def execBit_2_H (s : State) : Exec := bitR .b2 .h s

/-- BIT 2,L (R481). -/
def execBit_2_L (s : State) : Exec := bitR .b2 .l s

/-- BIT 2,A (R481). -/
def execBit_2_A (s : State) : Exec := bitR .b2 .a s

/-- BIT 3,B (R481). -/
def execBit_3_B (s : State) : Exec := bitR .b3 .b s

/-- BIT 3,C (R481). -/
def execBit_3_C (s : State) : Exec := bitR .b3 .c s

/-- BIT 3,D (R481). -/
def execBit_3_D (s : State) : Exec := bitR .b3 .d s

/-- BIT 3,E (R481). -/
def execBit_3_E (s : State) : Exec := bitR .b3 .e s

/-- BIT 3,H (R481). -/
def execBit_3_H (s : State) : Exec := bitR .b3 .h s

/-- BIT 3,L (R481). -/
def execBit_3_L (s : State) : Exec := bitR .b3 .l s

/-- BIT 3,A (R481). -/
def execBit_3_A (s : State) : Exec := bitR .b3 .a s

/-- BIT 4,B (R481). -/
def execBit_4_B (s : State) : Exec := bitR .b4 .b s

/-- BIT 4,C (R481). -/
def execBit_4_C (s : State) : Exec := bitR .b4 .c s

/-- BIT 4,D (R481). -/
def execBit_4_D (s : State) : Exec := bitR .b4 .d s

/-- BIT 4,E (R481). -/
def execBit_4_E (s : State) : Exec := bitR .b4 .e s

/-- BIT 4,H (R481). -/
def execBit_4_H (s : State) : Exec := bitR .b4 .h s

/-- BIT 4,L (R481). -/
def execBit_4_L (s : State) : Exec := bitR .b4 .l s

/-- BIT 4,A (R481). -/
def execBit_4_A (s : State) : Exec := bitR .b4 .a s

/-- BIT 5,B (R481). -/
def execBit_5_B (s : State) : Exec := bitR .b5 .b s

/-- BIT 5,C (R481). -/
def execBit_5_C (s : State) : Exec := bitR .b5 .c s

/-- BIT 5,D (R481). -/
def execBit_5_D (s : State) : Exec := bitR .b5 .d s

/-- BIT 5,E (R481). -/
def execBit_5_E (s : State) : Exec := bitR .b5 .e s

/-- BIT 5,H (R481). -/
def execBit_5_H (s : State) : Exec := bitR .b5 .h s

/-- BIT 5,L (R481). -/
def execBit_5_L (s : State) : Exec := bitR .b5 .l s

/-- BIT 5,A (R481). -/
def execBit_5_A (s : State) : Exec := bitR .b5 .a s

/-- BIT 6,B (R481). -/
def execBit_6_B (s : State) : Exec := bitR .b6 .b s

/-- BIT 6,C (R481). -/
def execBit_6_C (s : State) : Exec := bitR .b6 .c s

/-- BIT 6,D (R481). -/
def execBit_6_D (s : State) : Exec := bitR .b6 .d s

/-- BIT 6,E (R481). -/
def execBit_6_E (s : State) : Exec := bitR .b6 .e s

/-- BIT 6,H (R481). -/
def execBit_6_H (s : State) : Exec := bitR .b6 .h s

/-- BIT 6,L (R481). -/
def execBit_6_L (s : State) : Exec := bitR .b6 .l s

/-- BIT 6,A (R481). -/
def execBit_6_A (s : State) : Exec := bitR .b6 .a s

/-- BIT 7,B (R481). -/
def execBit_7_B (s : State) : Exec := bitR .b7 .b s

/-- BIT 7,C (R481). -/
def execBit_7_C (s : State) : Exec := bitR .b7 .c s

/-- BIT 7,D (R481). -/
def execBit_7_D (s : State) : Exec := bitR .b7 .d s

/-- BIT 7,E (R481). -/
def execBit_7_E (s : State) : Exec := bitR .b7 .e s

/-- BIT 7,H (R481). -/
def execBit_7_H (s : State) : Exec := bitR .b7 .h s

/-- BIT 7,L (R481). -/
def execBit_7_L (s : State) : Exec := bitR .b7 .l s

/-- BIT 7,A (R481). -/
def execBit_7_A (s : State) : Exec := bitR .b7 .a s

/-- BIT 0,(HL) (R482). -/
def execBit_0_atHL (s : State) : Exec := bitAtHL .b0 s

/-- BIT 1,(HL) (R482). -/
def execBit_1_atHL (s : State) : Exec := bitAtHL .b1 s

/-- BIT 2,(HL) (R482). -/
def execBit_2_atHL (s : State) : Exec := bitAtHL .b2 s

/-- BIT 3,(HL) (R482). -/
def execBit_3_atHL (s : State) : Exec := bitAtHL .b3 s

/-- BIT 4,(HL) (R482). -/
def execBit_4_atHL (s : State) : Exec := bitAtHL .b4 s

/-- BIT 5,(HL) (R482). -/
def execBit_5_atHL (s : State) : Exec := bitAtHL .b5 s

/-- BIT 6,(HL) (R482). -/
def execBit_6_atHL (s : State) : Exec := bitAtHL .b6 s

/-- BIT 7,(HL) (R482). -/
def execBit_7_atHL (s : State) : Exec := bitAtHL .b7 s

/-- BIT 0,(IX+d) (R483). -/
def execBit_0_atIXd (d : Byte) (s : State) : Exec := bitAtIdx .b0 .ix d s

/-- BIT 1,(IX+d) (R483). -/
def execBit_1_atIXd (d : Byte) (s : State) : Exec := bitAtIdx .b1 .ix d s

/-- BIT 2,(IX+d) (R483). -/
def execBit_2_atIXd (d : Byte) (s : State) : Exec := bitAtIdx .b2 .ix d s

/-- BIT 3,(IX+d) (R483). -/
def execBit_3_atIXd (d : Byte) (s : State) : Exec := bitAtIdx .b3 .ix d s

/-- BIT 4,(IX+d) (R483). -/
def execBit_4_atIXd (d : Byte) (s : State) : Exec := bitAtIdx .b4 .ix d s

/-- BIT 5,(IX+d) (R483). -/
def execBit_5_atIXd (d : Byte) (s : State) : Exec := bitAtIdx .b5 .ix d s

/-- BIT 6,(IX+d) (R483). -/
def execBit_6_atIXd (d : Byte) (s : State) : Exec := bitAtIdx .b6 .ix d s

/-- BIT 7,(IX+d) (R483). -/
def execBit_7_atIXd (d : Byte) (s : State) : Exec := bitAtIdx .b7 .ix d s

/-- BIT 0,(IY+d) (R484). -/
def execBit_0_atIYd (d : Byte) (s : State) : Exec := bitAtIdx .b0 .iy d s

/-- BIT 1,(IY+d) (R484). -/
def execBit_1_atIYd (d : Byte) (s : State) : Exec := bitAtIdx .b1 .iy d s

/-- BIT 2,(IY+d) (R484). -/
def execBit_2_atIYd (d : Byte) (s : State) : Exec := bitAtIdx .b2 .iy d s

/-- BIT 3,(IY+d) (R484). -/
def execBit_3_atIYd (d : Byte) (s : State) : Exec := bitAtIdx .b3 .iy d s

/-- BIT 4,(IY+d) (R484). -/
def execBit_4_atIYd (d : Byte) (s : State) : Exec := bitAtIdx .b4 .iy d s

/-- BIT 5,(IY+d) (R484). -/
def execBit_5_atIYd (d : Byte) (s : State) : Exec := bitAtIdx .b5 .iy d s

/-- BIT 6,(IY+d) (R484). -/
def execBit_6_atIYd (d : Byte) (s : State) : Exec := bitAtIdx .b6 .iy d s

/-- BIT 7,(IY+d) (R484). -/
def execBit_7_atIYd (d : Byte) (s : State) : Exec := bitAtIdx .b7 .iy d s

/-- RES 0,B (R485). -/
def execRes_0_B (s : State) : Exec := resR .b0 .b s

/-- RES 0,C (R485). -/
def execRes_0_C (s : State) : Exec := resR .b0 .c s

/-- RES 0,D (R485). -/
def execRes_0_D (s : State) : Exec := resR .b0 .d s

/-- RES 0,E (R485). -/
def execRes_0_E (s : State) : Exec := resR .b0 .e s

/-- RES 0,H (R485). -/
def execRes_0_H (s : State) : Exec := resR .b0 .h s

/-- RES 0,L (R485). -/
def execRes_0_L (s : State) : Exec := resR .b0 .l s

/-- RES 0,A (R485). -/
def execRes_0_A (s : State) : Exec := resR .b0 .a s

/-- RES 1,B (R485). -/
def execRes_1_B (s : State) : Exec := resR .b1 .b s

/-- RES 1,C (R485). -/
def execRes_1_C (s : State) : Exec := resR .b1 .c s

/-- RES 1,D (R485). -/
def execRes_1_D (s : State) : Exec := resR .b1 .d s

/-- RES 1,E (R485). -/
def execRes_1_E (s : State) : Exec := resR .b1 .e s

/-- RES 1,H (R485). -/
def execRes_1_H (s : State) : Exec := resR .b1 .h s

/-- RES 1,L (R485). -/
def execRes_1_L (s : State) : Exec := resR .b1 .l s

/-- RES 1,A (R485). -/
def execRes_1_A (s : State) : Exec := resR .b1 .a s

/-- RES 2,B (R485). -/
def execRes_2_B (s : State) : Exec := resR .b2 .b s

/-- RES 2,C (R485). -/
def execRes_2_C (s : State) : Exec := resR .b2 .c s

/-- RES 2,D (R485). -/
def execRes_2_D (s : State) : Exec := resR .b2 .d s

/-- RES 2,E (R485). -/
def execRes_2_E (s : State) : Exec := resR .b2 .e s

/-- RES 2,H (R485). -/
def execRes_2_H (s : State) : Exec := resR .b2 .h s

/-- RES 2,L (R485). -/
def execRes_2_L (s : State) : Exec := resR .b2 .l s

/-- RES 2,A (R485). -/
def execRes_2_A (s : State) : Exec := resR .b2 .a s

/-- RES 3,B (R485). -/
def execRes_3_B (s : State) : Exec := resR .b3 .b s

/-- RES 3,C (R485). -/
def execRes_3_C (s : State) : Exec := resR .b3 .c s

/-- RES 3,D (R485). -/
def execRes_3_D (s : State) : Exec := resR .b3 .d s

/-- RES 3,E (R485). -/
def execRes_3_E (s : State) : Exec := resR .b3 .e s

/-- RES 3,H (R485). -/
def execRes_3_H (s : State) : Exec := resR .b3 .h s

/-- RES 3,L (R485). -/
def execRes_3_L (s : State) : Exec := resR .b3 .l s

/-- RES 3,A (R485). -/
def execRes_3_A (s : State) : Exec := resR .b3 .a s

/-- RES 4,B (R485). -/
def execRes_4_B (s : State) : Exec := resR .b4 .b s

/-- RES 4,C (R485). -/
def execRes_4_C (s : State) : Exec := resR .b4 .c s

/-- RES 4,D (R485). -/
def execRes_4_D (s : State) : Exec := resR .b4 .d s

/-- RES 4,E (R485). -/
def execRes_4_E (s : State) : Exec := resR .b4 .e s

/-- RES 4,H (R485). -/
def execRes_4_H (s : State) : Exec := resR .b4 .h s

/-- RES 4,L (R485). -/
def execRes_4_L (s : State) : Exec := resR .b4 .l s

/-- RES 4,A (R485). -/
def execRes_4_A (s : State) : Exec := resR .b4 .a s

/-- RES 5,B (R485). -/
def execRes_5_B (s : State) : Exec := resR .b5 .b s

/-- RES 5,C (R485). -/
def execRes_5_C (s : State) : Exec := resR .b5 .c s

/-- RES 5,D (R485). -/
def execRes_5_D (s : State) : Exec := resR .b5 .d s

/-- RES 5,E (R485). -/
def execRes_5_E (s : State) : Exec := resR .b5 .e s

/-- RES 5,H (R485). -/
def execRes_5_H (s : State) : Exec := resR .b5 .h s

/-- RES 5,L (R485). -/
def execRes_5_L (s : State) : Exec := resR .b5 .l s

/-- RES 5,A (R485). -/
def execRes_5_A (s : State) : Exec := resR .b5 .a s

/-- RES 6,B (R485). -/
def execRes_6_B (s : State) : Exec := resR .b6 .b s

/-- RES 6,C (R485). -/
def execRes_6_C (s : State) : Exec := resR .b6 .c s

/-- RES 6,D (R485). -/
def execRes_6_D (s : State) : Exec := resR .b6 .d s

/-- RES 6,E (R485). -/
def execRes_6_E (s : State) : Exec := resR .b6 .e s

/-- RES 6,H (R485). -/
def execRes_6_H (s : State) : Exec := resR .b6 .h s

/-- RES 6,L (R485). -/
def execRes_6_L (s : State) : Exec := resR .b6 .l s

/-- RES 6,A (R485). -/
def execRes_6_A (s : State) : Exec := resR .b6 .a s

/-- RES 7,B (R485). -/
def execRes_7_B (s : State) : Exec := resR .b7 .b s

/-- RES 7,C (R485). -/
def execRes_7_C (s : State) : Exec := resR .b7 .c s

/-- RES 7,D (R485). -/
def execRes_7_D (s : State) : Exec := resR .b7 .d s

/-- RES 7,E (R485). -/
def execRes_7_E (s : State) : Exec := resR .b7 .e s

/-- RES 7,H (R485). -/
def execRes_7_H (s : State) : Exec := resR .b7 .h s

/-- RES 7,L (R485). -/
def execRes_7_L (s : State) : Exec := resR .b7 .l s

/-- RES 7,A (R485). -/
def execRes_7_A (s : State) : Exec := resR .b7 .a s

/-- RES 0,(HL) (R486). -/
def execRes_0_atHL (s : State) : Exec := resAtHL .b0 s

/-- RES 1,(HL) (R486). -/
def execRes_1_atHL (s : State) : Exec := resAtHL .b1 s

/-- RES 2,(HL) (R486). -/
def execRes_2_atHL (s : State) : Exec := resAtHL .b2 s

/-- RES 3,(HL) (R486). -/
def execRes_3_atHL (s : State) : Exec := resAtHL .b3 s

/-- RES 4,(HL) (R486). -/
def execRes_4_atHL (s : State) : Exec := resAtHL .b4 s

/-- RES 5,(HL) (R486). -/
def execRes_5_atHL (s : State) : Exec := resAtHL .b5 s

/-- RES 6,(HL) (R486). -/
def execRes_6_atHL (s : State) : Exec := resAtHL .b6 s

/-- RES 7,(HL) (R486). -/
def execRes_7_atHL (s : State) : Exec := resAtHL .b7 s

/-- RES 0,(IX+d) (R487). -/
def execRes_0_atIXd (d : Byte) (s : State) : Exec := resAtIdx .b0 .ix d s

/-- RES 1,(IX+d) (R487). -/
def execRes_1_atIXd (d : Byte) (s : State) : Exec := resAtIdx .b1 .ix d s

/-- RES 2,(IX+d) (R487). -/
def execRes_2_atIXd (d : Byte) (s : State) : Exec := resAtIdx .b2 .ix d s

/-- RES 3,(IX+d) (R487). -/
def execRes_3_atIXd (d : Byte) (s : State) : Exec := resAtIdx .b3 .ix d s

/-- RES 4,(IX+d) (R487). -/
def execRes_4_atIXd (d : Byte) (s : State) : Exec := resAtIdx .b4 .ix d s

/-- RES 5,(IX+d) (R487). -/
def execRes_5_atIXd (d : Byte) (s : State) : Exec := resAtIdx .b5 .ix d s

/-- RES 6,(IX+d) (R487). -/
def execRes_6_atIXd (d : Byte) (s : State) : Exec := resAtIdx .b6 .ix d s

/-- RES 7,(IX+d) (R487). -/
def execRes_7_atIXd (d : Byte) (s : State) : Exec := resAtIdx .b7 .ix d s

/-- RES 0,(IY+d) (R488). -/
def execRes_0_atIYd (d : Byte) (s : State) : Exec := resAtIdx .b0 .iy d s

/-- RES 1,(IY+d) (R488). -/
def execRes_1_atIYd (d : Byte) (s : State) : Exec := resAtIdx .b1 .iy d s

/-- RES 2,(IY+d) (R488). -/
def execRes_2_atIYd (d : Byte) (s : State) : Exec := resAtIdx .b2 .iy d s

/-- RES 3,(IY+d) (R488). -/
def execRes_3_atIYd (d : Byte) (s : State) : Exec := resAtIdx .b3 .iy d s

/-- RES 4,(IY+d) (R488). -/
def execRes_4_atIYd (d : Byte) (s : State) : Exec := resAtIdx .b4 .iy d s

/-- RES 5,(IY+d) (R488). -/
def execRes_5_atIYd (d : Byte) (s : State) : Exec := resAtIdx .b5 .iy d s

/-- RES 6,(IY+d) (R488). -/
def execRes_6_atIYd (d : Byte) (s : State) : Exec := resAtIdx .b6 .iy d s

/-- RES 7,(IY+d) (R488). -/
def execRes_7_atIYd (d : Byte) (s : State) : Exec := resAtIdx .b7 .iy d s

/-- SET 0,B (R489). -/
def execSet_0_B (s : State) : Exec := setR .b0 .b s

/-- SET 0,C (R489). -/
def execSet_0_C (s : State) : Exec := setR .b0 .c s

/-- SET 0,D (R489). -/
def execSet_0_D (s : State) : Exec := setR .b0 .d s

/-- SET 0,E (R489). -/
def execSet_0_E (s : State) : Exec := setR .b0 .e s

/-- SET 0,H (R489). -/
def execSet_0_H (s : State) : Exec := setR .b0 .h s

/-- SET 0,L (R489). -/
def execSet_0_L (s : State) : Exec := setR .b0 .l s

/-- SET 0,A (R489). -/
def execSet_0_A (s : State) : Exec := setR .b0 .a s

/-- SET 1,B (R489). -/
def execSet_1_B (s : State) : Exec := setR .b1 .b s

/-- SET 1,C (R489). -/
def execSet_1_C (s : State) : Exec := setR .b1 .c s

/-- SET 1,D (R489). -/
def execSet_1_D (s : State) : Exec := setR .b1 .d s

/-- SET 1,E (R489). -/
def execSet_1_E (s : State) : Exec := setR .b1 .e s

/-- SET 1,H (R489). -/
def execSet_1_H (s : State) : Exec := setR .b1 .h s

/-- SET 1,L (R489). -/
def execSet_1_L (s : State) : Exec := setR .b1 .l s

/-- SET 1,A (R489). -/
def execSet_1_A (s : State) : Exec := setR .b1 .a s

/-- SET 2,B (R489). -/
def execSet_2_B (s : State) : Exec := setR .b2 .b s

/-- SET 2,C (R489). -/
def execSet_2_C (s : State) : Exec := setR .b2 .c s

/-- SET 2,D (R489). -/
def execSet_2_D (s : State) : Exec := setR .b2 .d s

/-- SET 2,E (R489). -/
def execSet_2_E (s : State) : Exec := setR .b2 .e s

/-- SET 2,H (R489). -/
def execSet_2_H (s : State) : Exec := setR .b2 .h s

/-- SET 2,L (R489). -/
def execSet_2_L (s : State) : Exec := setR .b2 .l s

/-- SET 2,A (R489). -/
def execSet_2_A (s : State) : Exec := setR .b2 .a s

/-- SET 3,B (R489). -/
def execSet_3_B (s : State) : Exec := setR .b3 .b s

/-- SET 3,C (R489). -/
def execSet_3_C (s : State) : Exec := setR .b3 .c s

/-- SET 3,D (R489). -/
def execSet_3_D (s : State) : Exec := setR .b3 .d s

/-- SET 3,E (R489). -/
def execSet_3_E (s : State) : Exec := setR .b3 .e s

/-- SET 3,H (R489). -/
def execSet_3_H (s : State) : Exec := setR .b3 .h s

/-- SET 3,L (R489). -/
def execSet_3_L (s : State) : Exec := setR .b3 .l s

/-- SET 3,A (R489). -/
def execSet_3_A (s : State) : Exec := setR .b3 .a s

/-- SET 4,B (R489). -/
def execSet_4_B (s : State) : Exec := setR .b4 .b s

/-- SET 4,C (R489). -/
def execSet_4_C (s : State) : Exec := setR .b4 .c s

/-- SET 4,D (R489). -/
def execSet_4_D (s : State) : Exec := setR .b4 .d s

/-- SET 4,E (R489). -/
def execSet_4_E (s : State) : Exec := setR .b4 .e s

/-- SET 4,H (R489). -/
def execSet_4_H (s : State) : Exec := setR .b4 .h s

/-- SET 4,L (R489). -/
def execSet_4_L (s : State) : Exec := setR .b4 .l s

/-- SET 4,A (R489). -/
def execSet_4_A (s : State) : Exec := setR .b4 .a s

/-- SET 5,B (R489). -/
def execSet_5_B (s : State) : Exec := setR .b5 .b s

/-- SET 5,C (R489). -/
def execSet_5_C (s : State) : Exec := setR .b5 .c s

/-- SET 5,D (R489). -/
def execSet_5_D (s : State) : Exec := setR .b5 .d s

/-- SET 5,E (R489). -/
def execSet_5_E (s : State) : Exec := setR .b5 .e s

/-- SET 5,H (R489). -/
def execSet_5_H (s : State) : Exec := setR .b5 .h s

/-- SET 5,L (R489). -/
def execSet_5_L (s : State) : Exec := setR .b5 .l s

/-- SET 5,A (R489). -/
def execSet_5_A (s : State) : Exec := setR .b5 .a s

/-- SET 6,B (R489). -/
def execSet_6_B (s : State) : Exec := setR .b6 .b s

/-- SET 6,C (R489). -/
def execSet_6_C (s : State) : Exec := setR .b6 .c s

/-- SET 6,D (R489). -/
def execSet_6_D (s : State) : Exec := setR .b6 .d s

/-- SET 6,E (R489). -/
def execSet_6_E (s : State) : Exec := setR .b6 .e s

/-- SET 6,H (R489). -/
def execSet_6_H (s : State) : Exec := setR .b6 .h s

/-- SET 6,L (R489). -/
def execSet_6_L (s : State) : Exec := setR .b6 .l s

/-- SET 6,A (R489). -/
def execSet_6_A (s : State) : Exec := setR .b6 .a s

/-- SET 7,B (R489). -/
def execSet_7_B (s : State) : Exec := setR .b7 .b s

/-- SET 7,C (R489). -/
def execSet_7_C (s : State) : Exec := setR .b7 .c s

/-- SET 7,D (R489). -/
def execSet_7_D (s : State) : Exec := setR .b7 .d s

/-- SET 7,E (R489). -/
def execSet_7_E (s : State) : Exec := setR .b7 .e s

/-- SET 7,H (R489). -/
def execSet_7_H (s : State) : Exec := setR .b7 .h s

/-- SET 7,L (R489). -/
def execSet_7_L (s : State) : Exec := setR .b7 .l s

/-- SET 7,A (R489). -/
def execSet_7_A (s : State) : Exec := setR .b7 .a s

/-- SET 0,(HL) (R490). -/
def execSet_0_atHL (s : State) : Exec := setAtHL .b0 s

/-- SET 1,(HL) (R490). -/
def execSet_1_atHL (s : State) : Exec := setAtHL .b1 s

/-- SET 2,(HL) (R490). -/
def execSet_2_atHL (s : State) : Exec := setAtHL .b2 s

/-- SET 3,(HL) (R490). -/
def execSet_3_atHL (s : State) : Exec := setAtHL .b3 s

/-- SET 4,(HL) (R490). -/
def execSet_4_atHL (s : State) : Exec := setAtHL .b4 s

/-- SET 5,(HL) (R490). -/
def execSet_5_atHL (s : State) : Exec := setAtHL .b5 s

/-- SET 6,(HL) (R490). -/
def execSet_6_atHL (s : State) : Exec := setAtHL .b6 s

/-- SET 7,(HL) (R490). -/
def execSet_7_atHL (s : State) : Exec := setAtHL .b7 s

/-- SET 0,(IX+d) (R491). -/
def execSet_0_atIXd (d : Byte) (s : State) : Exec := setAtIdx .b0 .ix d s

/-- SET 1,(IX+d) (R491). -/
def execSet_1_atIXd (d : Byte) (s : State) : Exec := setAtIdx .b1 .ix d s

/-- SET 2,(IX+d) (R491). -/
def execSet_2_atIXd (d : Byte) (s : State) : Exec := setAtIdx .b2 .ix d s

/-- SET 3,(IX+d) (R491). -/
def execSet_3_atIXd (d : Byte) (s : State) : Exec := setAtIdx .b3 .ix d s

/-- SET 4,(IX+d) (R491). -/
def execSet_4_atIXd (d : Byte) (s : State) : Exec := setAtIdx .b4 .ix d s

/-- SET 5,(IX+d) (R491). -/
def execSet_5_atIXd (d : Byte) (s : State) : Exec := setAtIdx .b5 .ix d s

/-- SET 6,(IX+d) (R491). -/
def execSet_6_atIXd (d : Byte) (s : State) : Exec := setAtIdx .b6 .ix d s

/-- SET 7,(IX+d) (R491). -/
def execSet_7_atIXd (d : Byte) (s : State) : Exec := setAtIdx .b7 .ix d s

/-- SET 0,(IY+d) (R492). -/
def execSet_0_atIYd (d : Byte) (s : State) : Exec := setAtIdx .b0 .iy d s

/-- SET 1,(IY+d) (R492). -/
def execSet_1_atIYd (d : Byte) (s : State) : Exec := setAtIdx .b1 .iy d s

/-- SET 2,(IY+d) (R492). -/
def execSet_2_atIYd (d : Byte) (s : State) : Exec := setAtIdx .b2 .iy d s

/-- SET 3,(IY+d) (R492). -/
def execSet_3_atIYd (d : Byte) (s : State) : Exec := setAtIdx .b3 .iy d s

/-- SET 4,(IY+d) (R492). -/
def execSet_4_atIYd (d : Byte) (s : State) : Exec := setAtIdx .b4 .iy d s

/-- SET 5,(IY+d) (R492). -/
def execSet_5_atIYd (d : Byte) (s : State) : Exec := setAtIdx .b5 .iy d s

/-- SET 6,(IY+d) (R492). -/
def execSet_6_atIYd (d : Byte) (s : State) : Exec := setAtIdx .b6 .iy d s

/-- SET 7,(IY+d) (R492). -/
def execSet_7_atIYd (d : Byte) (s : State) : Exec := setAtIdx .b7 .iy d s

end Sys2Proof.Machine
end

