-- ==== Sys2Proof/Machine/Block.lean ====
section
/-! DEFINITION. The block moves and UMA, UMS (48_block.md R540-R552): one iteration of a repeating form is one step that
leaves PC at the instruction's first byte while BC is not 0. -/

namespace Sys2Proof.Machine

/-! ## Operations of the family -/

/-- BC after one iteration (R540). -/
def State.bcDown (s : State) : Word := s.bc - 1

/-- The end of a repeating form's iteration: back to the first byte while BC is not 0 (R540). -/
def State.again (s : State) : State := if s.bc = 0 then s else s.setPc s.ctx.first

/-- A byte from (HL) to (DE): source in memory and destination in the marked space, or the other way round
(20_memory.md R105). -/
def State.moveToIo (s : State) : State := s.dataWrite8 s.de (s.memRead8 s.hl)

/-- A byte from (HL) in the marked space to (DE) in memory (20_memory.md R105). -/
def State.moveFromIo (s : State) : State :=
  let rd := s.dataRead8 s.hl
  rd.2.memWrite8 s.de rd.1

/-- After the transfer: BC down, DE and HL moved, L/V = (BC != 0) in main F (R541). -/
def State.blockUpdate (s : State) (dDE dHL : Word) : State :=
  let t := ((s.setMainPair .de (s.de + dDE)).setMainPair .hl (s.hl + dHL)).setMainPair .bc s.bcDown
  t.setMainFlags { lv := some (s.bcDown != 0) }

/-- One iteration with the destination marked: LDI, LDD, LDIR, LDDR, LDISR, LDDSR (R541-R546). -/
def State.ldIter (s : State) (dDE dHL : Word) : State := s.moveToIo.blockUpdate dDE dHL

/-- One iteration with the source marked: LSIR, LSDR, LSIDR, LSDDR (R547-R550). -/
def State.lsIter (s : State) (dDE dHL : Word) : State := s.moveFromIo.blockUpdate dDE dHL

/-- `t` of R551: `y * DE + DE' + F.C`. -/
def State.macTerm (s : State) : Nat :=
  (s.memRead8 s.iy).toNat * s.de.toNat + (s.alt.pair .de).toNat + s.main.f.c.toNat

/-- One iteration of UMA or UMS from the 25-bit sum or difference `v`: bits 7..0 to (HL), bits 23..8 to DE', bit 24 to
main F.C, then the counters (R551, R552). -/
def State.macIter (s : State) (v : BitVec 25) : State :=
  let t := s.memWrite8 s.hl (v.extractLsb' 0 8)
  let u := { t with alt := t.alt.setPair .de (v.extractLsb' 8 16), ix := t.ix + 1, iy := t.iy + 1 }
  ((u.setMainPair .hl (u.hl + 1)).setMainPair .bc u.bcDown).setMainFlags { c := some v.msb }

/-! ## The rows -/

/-- LDI (R541). -/
def execLdi (s : State) : Exec := .next (s.ldIter 1 1)

/-- LDD (R542). -/
def execLdd (s : State) : Exec := .next (s.ldIter (-1) (-1))

/-- LDIR (R543). -/
def execLdir (s : State) : Exec := .next (s.ldIter 1 1).again

/-- LDDR (R544). -/
def execLddr (s : State) : Exec := .next (s.ldIter (-1) (-1)).again

/-- LDISR (R545): DE is not changed. -/
def execLdisr (s : State) : Exec := .next (s.ldIter 0 1).again

/-- LDDSR (R546): DE is not changed. -/
def execLddsr (s : State) : Exec := .next (s.ldIter 0 (-1)).again

/-- LSIR (R547). -/
def execLsir (s : State) : Exec := .next (s.lsIter 1 1).again

/-- LSDR (R548). -/
def execLsdr (s : State) : Exec := .next (s.lsIter (-1) (-1)).again

/-- LSIDR (R549): HL is not changed. -/
def execLsidr (s : State) : Exec := .next (s.lsIter 1 0).again

/-- LSDDR (R550): HL is not changed. -/
def execLsddr (s : State) : Exec := .next (s.lsIter (-1) 0).again

/-- UMA (R551): the 25-bit sum of (IX) and the term. -/
def execUma (s : State) : Exec :=
  .next (s.macIter (BitVec.ofNat 25 ((s.memRead8 s.ix).toNat + s.macTerm))).again

/-- UMS (R552): the 25-bit two's complement difference of (IX) and the term. -/
def execUms (s : State) : Exec :=
  .next (s.macIter (BitVec.ofInt 25 ((s.memRead8 s.ix).toNat - s.macTerm))).again

end Sys2Proof.Machine
end

