-- ==== Sys2Proof/Machine/Control.lean ====
section
/-! DEFINITION. The jump, call and return instructions (47_control.md R501-R515). PC stands at the next instruction when
a meaning runs (00_scope.md R14). -/

namespace Sys2Proof.Machine

/-! ## Operations of the family -/

/-- A call: push the address of the next instruction, jump. -/
def State.callTo (s : State) (t : Word) : State := (s.push16 s.pc).setPc t

/-- A return: pop PC. -/
def State.ret (s : State) : State := (s.dropStack 2).setPc s.top16

/-- JP f,mn (R502). -/
def jpF (f : Cond) (mn : Word) (s : State) : Exec := .next (if s.cond f then s.setPc mn else s)

/-- JP (IX) and JP (IY) (R504, R505): the register, no memory read. -/
def jpIdx (x : Idx) (s : State) : Exec := .next (s.setPc (s.idx x))

/-- JR cc,e (R507). -/
def jrCc (cc : Cc) (k : Byte) (s : State) : Exec :=
  .next (if s.cond cc.toCond then s.setPc (s.relTarget k) else s)

/-- RET f (R511). -/
def retF (f : Cond) (s : State) : Exec := .next (if s.cond f then s.ret else s)

/-- RST v (R515): to `{IIR, offset}`. -/
def rst (v : Rst) (s : State) : Exec := .next (s.callTo (mkWord s.iir v.offset))

/-! ## The rows -/

/-- JP mn (R501). -/
def execJp_mn (mn : Word) (s : State) : Exec := .next (s.setPc mn)

/-- JP NZ,mn (R502). -/
def execJp_NZ_mn (mn : Word) (s : State) : Exec := jpF .nz mn s

/-- JP Z,mn (R502). -/
def execJp_Z_mn (mn : Word) (s : State) : Exec := jpF .z mn s

/-- JP NC,mn (R502). -/
def execJp_NC_mn (mn : Word) (s : State) : Exec := jpF .nc mn s

/-- JP C,mn (R502). -/
def execJp_C_mn (mn : Word) (s : State) : Exec := jpF .c mn s

/-- JP LZ,mn (R502). -/
def execJp_LZ_mn (mn : Word) (s : State) : Exec := jpF .lz mn s

/-- JP LO,mn (R502). -/
def execJp_LO_mn (mn : Word) (s : State) : Exec := jpF .lo mn s

/-- JP P,mn (R502). -/
def execJp_P_mn (mn : Word) (s : State) : Exec := jpF .p mn s

/-- JP M,mn (R502). -/
def execJp_M_mn (mn : Word) (s : State) : Exec := jpF .m mn s

/-- JP (HL) (R503): the register, no memory read. -/
def execJp_atHL (s : State) : Exec := .next (s.setPc s.hl)

/-- JP (IX) (R504). -/
def execJp_atIX (s : State) : Exec := jpIdx .ix s

/-- JP (IY) (R505). -/
def execJp_atIY (s : State) : Exec := jpIdx .iy s

/-- JR e (R506). -/
def execJr_e (k : Byte) (s : State) : Exec := .next (s.setPc (s.relTarget k))

/-- JR NZ,e (R507). -/
def execJr_NZ_e (k : Byte) (s : State) : Exec := jrCc .nz k s

/-- JR Z,e (R507). -/
def execJr_Z_e (k : Byte) (s : State) : Exec := jrCc .z k s

/-- JR NC,e (R507). -/
def execJr_NC_e (k : Byte) (s : State) : Exec := jrCc .nc k s

/-- JR C,e (R507). -/
def execJr_C_e (k : Byte) (s : State) : Exec := jrCc .c k s

/-- DJNZ e (R508): B - 1 to B, under ALTD to B'; the test is on the value written. -/
def execDjnz_e (k : Byte) (s : State) : Exec :=
  let t := s.main.b - 1
  let u := s.dst8 .b t
  .next (if t = 0 then u else u.setPc (s.relTarget k))

/-- CALL mn (R509). -/
def execCall_mn (mn : Word) (s : State) : Exec := .next (s.callTo mn)

/-- RET (R510). -/
def execRet (s : State) : Exec := .next s.ret

/-- RET NZ (R511). -/
def execRet_NZ (s : State) : Exec := retF .nz s

/-- RET Z (R511). -/
def execRet_Z (s : State) : Exec := retF .z s

/-- RET NC (R511). -/
def execRet_NC (s : State) : Exec := retF .nc s

/-- RET C (R511). -/
def execRet_C (s : State) : Exec := retF .c s

/-- RET LZ (R511). -/
def execRet_LZ (s : State) : Exec := retF .lz s

/-- RET LO (R511). -/
def execRet_LO (s : State) : Exec := retF .lo s

/-- RET P (R511). -/
def execRet_P (s : State) : Exec := retF .p s

/-- RET M (R511). -/
def execRet_M (s : State) : Exec := retF .m s

/-- LCALL x,mn (R512): XPC, PC high, PC low pushed under the old XPC; any mn. -/
def execLcall_x_mn (mn : Word) (x : Byte) (s : State) : Exec :=
  let t := (s.push8 s.xpc).push16 s.pc
  .next { t with xpc := x, pc := mn }

/-- LJP x,mn (R513): any mn. -/
def execLjp_x_mn (mn : Word) (x : Byte) (s : State) : Exec := .next { s with xpc := x, pc := mn }

/-- LRET (R514): all three reads under the old XPC. -/
def execLret (s : State) : Exec :=
  .next { s with pc := s.top16, xpc := s.memRead8 (s.sp + 2), sp := s.sp + 3 }

/-- RST 10 (R515). -/
def execRst_10 (s : State) : Exec := rst .v10 s

/-- RST 18 (R515). -/
def execRst_18 (s : State) : Exec := rst .v18 s

/-- RST 20 (R515). -/
def execRst_20 (s : State) : Exec := rst .v20 s

/-- RST 28 (R515). -/
def execRst_28 (s : State) : Exec := rst .v28 s

/-- RST 38 (R515). -/
def execRst_38 (s : State) : Exec := rst .v38 s

end Sys2Proof.Machine
end

