-- ==== Sys2Proof/Machine/Load16.lean ====
section
/-! DEFINITION. The 16-bit loads and stores and LDP (41_ld16.md R241-R284). -/

namespace Sys2Proof.Machine

/-! ## Operations of the family -/

/-- LD dd,mn (R241). -/
def ldDdMn (r : Dd) (mn : Word) (s : State) : Exec := s.dstDd r mn

/-- LD IX,mn and LD IY,mn (R242, R243). -/
def ldIdxMn (x : Idx) (mn : Word) (s : State) : Exec := .next (s.setIdx x mn)

/-- A word loaded from a memory or I/O operand into HL (R244, R252-R254). -/
def loadHL (a : Word) (s : State) : Exec :=
  let rd := s.dataRead16 a
  .next (rd.2.dst16 .hl rd.1)

/-- LD dd,(mn) (R245): ALTD on SP is refused before any access. -/
def ldDdAtMn (r : Dd) (mn : Word) (s : State) : Exec :=
  let rd := s.dataRead16 mn
  rd.2.dstDd r rd.1

/-- LD IX,(mn) and LD IY,(mn) (R246, R247). -/
def ldIdxAtMn (x : Idx) (mn : Word) (s : State) : Exec :=
  let rd := s.dataRead16 mn
  .next (rd.2.setIdx x rd.1)

/-- LD (mn),ss (R249). -/
def ldAtMnSs (r : Dd) (mn : Word) (s : State) : Exec := .next (s.dataWrite16 mn (s.getDd r))

/-- LD (mn),IX and LD (mn),IY (R250, R251). -/
def ldAtMnIdx (x : Idx) (mn : Word) (s : State) : Exec := .next (s.dataWrite16 mn (s.idx x))

/-- LD HL,(IX+d) and LD HL,(IY+d) (R253, R254). -/
def ldHLAtIdx (x : Idx) (d : Byte) (s : State) : Exec := loadHL (s.idxAddr x d) s

/-- LD (IX+d),HL and LD (IY+d),HL (R256, R257). -/
def ldAtIdxHL (x : Idx) (d : Byte) (s : State) : Exec := .next (s.dataWrite16 (s.idxAddr x d) s.hl)

/-- LD IX,(SP+n) and LD IY,(SP+n) (R259, R260): always memory. -/
def ldIdxAtSP (x : Idx) (n : Byte) (s : State) : Exec := .next (s.setIdx x (s.memRead16 (s.spAddr n)))

/-- LD (SP+n),IX and LD (SP+n),IY (R262, R263): always memory. -/
def ldAtSPIdx (x : Idx) (n : Byte) (s : State) : Exec := .next (s.memWrite16 (s.spAddr n) (s.idx x))

/-- LD HL,IX and LD HL,IY (R264, R265). -/
def ldHLIdx (x : Idx) (s : State) : Exec := .next (s.dst16 .hl (s.idx x))

/-- LD IX,HL and LD IY,HL (R266, R267). -/
def ldIdxHL (x : Idx) (s : State) : Exec := .next (s.setIdx x s.hl)

/-- LD SP,IX and LD SP,IY (R269, R270), privileged. -/
def ldSPIdx (x : Idx) (s : State) : Exec := .next { s with sp := s.idx x }.privileged

/-- LD dd',BC and LD dd',DE (R271, R272): always the alternate pair. -/
def ldAlt (p : Pair) (v : Word) (s : State) : Exec := .next { s with alt := s.alt.setPair p v }

/-- LD dd',BC (R271). -/
def ldAltBC (p : Pair) (s : State) : Exec := ldAlt p s.bc s

/-- LD dd',DE (R272). -/
def ldAltDE (p : Pair) (s : State) : Exec := ldAlt p s.de s

/-- LDP (IX),HL and LDP (IY),HL (R274, R275). -/
def ldpAtIdxHL (x : Idx) (s : State) : Exec := .next (s.physWrite16 s.main.a (s.idx x) s.hl)

/-- LDP (mn),IX and LDP (mn),IY (R277, R278). -/
def ldpAtMnIdx (x : Idx) (mn : Word) (s : State) : Exec := .next (s.physWrite16 s.main.a mn (s.idx x))

/-- LDP HL,(IX) and LDP HL,(IY) (R280, R281): main HL, no ALTD mark. -/
def ldpHLAtIdx (x : Idx) (s : State) : Exec := .next (s.setMainPair .hl (s.physRead16 s.main.a (s.idx x)))

/-- LDP IX,(mn) and LDP IY,(mn) (R283, R284). -/
def ldpIdxAtMn (x : Idx) (mn : Word) (s : State) : Exec := .next (s.setIdx x (s.physRead16 s.main.a mn))

/-! ## The rows -/

/-- LD BC,mn (R241). -/
def execLd_BC_mn (mn : Word) (s : State) : Exec := ldDdMn .bc mn s

/-- LD DE,mn (R241). -/
def execLd_DE_mn (mn : Word) (s : State) : Exec := ldDdMn .de mn s

/-- LD HL,mn (R241). -/
def execLd_HL_mn (mn : Word) (s : State) : Exec := ldDdMn .hl mn s

/-- LD SP,mn (R241). -/
def execLd_SP_mn (mn : Word) (s : State) : Exec := ldDdMn .sp mn s

/-- LD IX,mn (R242). -/
def execLd_IX_mn (mn : Word) (s : State) : Exec := ldIdxMn .ix mn s

/-- LD IY,mn (R243). -/
def execLd_IY_mn (mn : Word) (s : State) : Exec := ldIdxMn .iy mn s

/-- LD HL,(mn) (R244). -/
def execLd_HL_atMn (mn : Word) (s : State) : Exec := loadHL mn s

/-- LD BC,(mn) (R245). -/
def execLd_BC_atMn (mn : Word) (s : State) : Exec := ldDdAtMn .bc mn s

/-- LD DE,(mn) (R245). -/
def execLd_DE_atMn (mn : Word) (s : State) : Exec := ldDdAtMn .de mn s

/-- LD HL,(mn) (R245). -/
def execLd_HL_atMn_ed (mn : Word) (s : State) : Exec := ldDdAtMn .hl mn s

/-- LD SP,(mn) (R245). -/
def execLd_SP_atMn (mn : Word) (s : State) : Exec := ldDdAtMn .sp mn s

/-- LD IX,(mn) (R246). -/
def execLd_IX_atMn (mn : Word) (s : State) : Exec := ldIdxAtMn .ix mn s

/-- LD IY,(mn) (R247). -/
def execLd_IY_atMn (mn : Word) (s : State) : Exec := ldIdxAtMn .iy mn s

/-- LD (mn),HL (R248). -/
def execLd_atMn_HL (mn : Word) (s : State) : Exec := .next (s.dataWrite16 mn s.hl)

/-- LD (mn),BC (R249). -/
def execLd_atMn_BC (mn : Word) (s : State) : Exec := ldAtMnSs .bc mn s

/-- LD (mn),DE (R249). -/
def execLd_atMn_DE (mn : Word) (s : State) : Exec := ldAtMnSs .de mn s

/-- LD (mn),HL (R249). -/
def execLd_atMn_HL_ed (mn : Word) (s : State) : Exec := ldAtMnSs .hl mn s

/-- LD (mn),SP (R249). -/
def execLd_atMn_SP (mn : Word) (s : State) : Exec := ldAtMnSs .sp mn s

/-- LD (mn),IX (R250). -/
def execLd_atMn_IX (mn : Word) (s : State) : Exec := ldAtMnIdx .ix mn s

/-- LD (mn),IY (R251). -/
def execLd_atMn_IY (mn : Word) (s : State) : Exec := ldAtMnIdx .iy mn s

/-- LD HL,(HL+d) (R252): both bytes at addresses of the old HL. -/
def execLd_HL_atHLd (d : Byte) (s : State) : Exec := loadHL (s.hl + sext16 d) s

/-- LD HL,(IX+d) (R253). -/
def execLd_HL_atIXd (d : Byte) (s : State) : Exec := ldHLAtIdx .ix d s

/-- LD HL,(IY+d) (R254). -/
def execLd_HL_atIYd (d : Byte) (s : State) : Exec := ldHLAtIdx .iy d s

/-- LD (HL+d),HL (R255). -/
def execLd_atHLd_HL (d : Byte) (s : State) : Exec := .next (s.dataWrite16 (s.hl + sext16 d) s.hl)

/-- LD (IX+d),HL (R256). -/
def execLd_atIXd_HL (d : Byte) (s : State) : Exec := ldAtIdxHL .ix d s

/-- LD (IY+d),HL (R257). -/
def execLd_atIYd_HL (d : Byte) (s : State) : Exec := ldAtIdxHL .iy d s

/-- LD HL,(SP+n) (R258): always memory. -/
def execLd_HL_atSPn (n : Byte) (s : State) : Exec := .next (s.dst16 .hl (s.memRead16 (s.spAddr n)))

/-- LD IX,(SP+n) (R259). -/
def execLd_IX_atSPn (n : Byte) (s : State) : Exec := ldIdxAtSP .ix n s

/-- LD IY,(SP+n) (R260). -/
def execLd_IY_atSPn (n : Byte) (s : State) : Exec := ldIdxAtSP .iy n s

/-- LD (SP+n),HL (R261): always memory. -/
def execLd_atSPn_HL (n : Byte) (s : State) : Exec := .next (s.memWrite16 (s.spAddr n) s.hl)

/-- LD (SP+n),IX (R262). -/
def execLd_atSPn_IX (n : Byte) (s : State) : Exec := ldAtSPIdx .ix n s

/-- LD (SP+n),IY (R263). -/
def execLd_atSPn_IY (n : Byte) (s : State) : Exec := ldAtSPIdx .iy n s

/-- LD HL,IX (R264). -/
def execLd_HL_IX (s : State) : Exec := ldHLIdx .ix s

/-- LD HL,IY (R265). -/
def execLd_HL_IY (s : State) : Exec := ldHLIdx .iy s

/-- LD IX,HL (R266). -/
def execLd_IX_HL (s : State) : Exec := ldIdxHL .ix s

/-- LD IY,HL (R267). -/
def execLd_IY_HL (s : State) : Exec := ldIdxHL .iy s

/-- LD SP,HL (R268), privileged. -/
def execLd_SP_HL (s : State) : Exec := .next { s with sp := s.hl }.privileged

/-- LD SP,IX (R269). -/
def execLd_SP_IX (s : State) : Exec := ldSPIdx .ix s

/-- LD SP,IY (R270). -/
def execLd_SP_IY (s : State) : Exec := ldSPIdx .iy s

/-- LD BC',BC (R271). -/
def execLd_BC'_BC (s : State) : Exec := ldAltBC .bc s

/-- LD DE',BC (R271). -/
def execLd_DE'_BC (s : State) : Exec := ldAltBC .de s

/-- LD HL',BC (R271). -/
def execLd_HL'_BC (s : State) : Exec := ldAltBC .hl s

/-- LD BC',DE (R272). -/
def execLd_BC'_DE (s : State) : Exec := ldAltDE .bc s

/-- LD DE',DE (R272). -/
def execLd_DE'_DE (s : State) : Exec := ldAltDE .de s

/-- LD HL',DE (R272). -/
def execLd_HL'_DE (s : State) : Exec := ldAltDE .hl s

/-- LDP (HL),HL (R273). -/
def execLdp_atHL_HL (s : State) : Exec := .next (s.physWrite16 s.main.a s.hl s.hl)

/-- LDP (IX),HL (R274). -/
def execLdp_atIX_HL (s : State) : Exec := ldpAtIdxHL .ix s

/-- LDP (IY),HL (R275). -/
def execLdp_atIY_HL (s : State) : Exec := ldpAtIdxHL .iy s

/-- LDP (mn),HL (R276). -/
def execLdp_atMn_HL (mn : Word) (s : State) : Exec := .next (s.physWrite16 s.main.a mn s.hl)

/-- LDP (mn),IX (R277). -/
def execLdp_atMn_IX (mn : Word) (s : State) : Exec := ldpAtMnIdx .ix mn s

/-- LDP (mn),IY (R278). -/
def execLdp_atMn_IY (mn : Word) (s : State) : Exec := ldpAtMnIdx .iy mn s

/-- LDP HL,(HL) (R279): both addresses from the old HL; main HL, no ALTD mark. -/
def execLdp_HL_atHL (s : State) : Exec := .next (s.setMainPair .hl (s.physRead16 s.main.a s.hl))

/-- LDP HL,(IX) (R280). -/
def execLdp_HL_atIX (s : State) : Exec := ldpHLAtIdx .ix s

/-- LDP HL,(IY) (R281). -/
def execLdp_HL_atIY (s : State) : Exec := ldpHLAtIdx .iy s

/-- LDP HL,(mn) (R282): main HL, no ALTD mark. -/
def execLdp_HL_atMn (mn : Word) (s : State) : Exec := .next (s.setMainPair .hl (s.physRead16 s.main.a mn))

/-- LDP IX,(mn) (R283). -/
def execLdp_IX_atMn (mn : Word) (s : State) : Exec := ldpIdxAtMn .ix mn s

/-- LDP IY,(mn) (R284). -/
def execLdp_IY_atMn (mn : Word) (s : State) : Exec := ldpIdxAtMn .iy mn s

end Sys2Proof.Machine
end

