-- ==== Sys2Proof/Machine/Load8.lean ====
section
/-! DEFINITION. The 8-bit loads and stores (40_ld8.md R201-R223). -/

namespace Sys2Proof.Machine

/-! ## Operations of the family -/

/-- LD r,g (R201). -/
def ldRG (r g : Reg8) (s : State) : Exec := .next (s.dst8 r (s.main.get g))

/-- LD r,n (R202). -/
def ldRN (r : Reg8) (n : Byte) (s : State) : Exec := .next (s.dst8 r n)

/-- A byte loaded from a memory or I/O operand into r. -/
def loadR (r : Reg8) (a : Word) (s : State) : Exec :=
  let rd := s.dataRead8 a
  .next (rd.2.dst8 r rd.1)

/-- LD r,(HL) (R203). -/
def ldRAtHL (r : Reg8) (s : State) : Exec := loadR r s.hl s

/-- LD r,(IX+d) and LD r,(IY+d) (R204, R205). -/
def ldRAtIdx (x : Idx) (r : Reg8) (d : Byte) (s : State) : Exec := loadR r (s.idxAddr x d) s

/-- LD (HL),r (R206). -/
def ldAtHLR (r : Reg8) (s : State) : Exec := .next (s.dataWrite8 s.hl (s.main.get r))

/-- LD (IX+d),r and LD (IY+d),r (R208, R210). -/
def ldAtIdxR (x : Idx) (r : Reg8) (d : Byte) (s : State) : Exec :=
  .next (s.dataWrite8 (s.idxAddr x d) (s.main.get r))

/-- LD (IX+d),n and LD (IY+d),n (R209, R211). -/
def ldAtIdxN (x : Idx) (d n : Byte) (s : State) : Exec := .next (s.dataWrite8 (s.idxAddr x d) n)

/-- The flags LD A,EIR and LD A,IIR write: S and Z of the value (R218, R219). -/
def loadFlags (v : Byte) : FlagUpd := { s := some v.msb, z := some (v == 0) }

/-! ## The rows -/

/-- LD B,B (R201). -/
def execLd_B_B (s : State) : Exec := ldRG .b .b s

/-- LD B,C (R201). -/
def execLd_B_C (s : State) : Exec := ldRG .b .c s

/-- LD B,D (R201). -/
def execLd_B_D (s : State) : Exec := ldRG .b .d s

/-- LD B,E (R201). -/
def execLd_B_E (s : State) : Exec := ldRG .b .e s

/-- LD B,H (R201). -/
def execLd_B_H (s : State) : Exec := ldRG .b .h s

/-- LD B,L (R201). -/
def execLd_B_L (s : State) : Exec := ldRG .b .l s

/-- LD B,A (R201). -/
def execLd_B_A (s : State) : Exec := ldRG .b .a s

/-- LD C,B (R201). -/
def execLd_C_B (s : State) : Exec := ldRG .c .b s

/-- LD C,C (R201). -/
def execLd_C_C (s : State) : Exec := ldRG .c .c s

/-- LD C,D (R201). -/
def execLd_C_D (s : State) : Exec := ldRG .c .d s

/-- LD C,E (R201). -/
def execLd_C_E (s : State) : Exec := ldRG .c .e s

/-- LD C,H (R201). -/
def execLd_C_H (s : State) : Exec := ldRG .c .h s

/-- LD C,L (R201). -/
def execLd_C_L (s : State) : Exec := ldRG .c .l s

/-- LD C,A (R201). -/
def execLd_C_A (s : State) : Exec := ldRG .c .a s

/-- LD D,B (R201). -/
def execLd_D_B (s : State) : Exec := ldRG .d .b s

/-- LD D,C (R201). -/
def execLd_D_C (s : State) : Exec := ldRG .d .c s

/-- LD D,D (R201). -/
def execLd_D_D (s : State) : Exec := ldRG .d .d s

/-- LD D,E (R201). -/
def execLd_D_E (s : State) : Exec := ldRG .d .e s

/-- LD D,H (R201). -/
def execLd_D_H (s : State) : Exec := ldRG .d .h s

/-- LD D,L (R201). -/
def execLd_D_L (s : State) : Exec := ldRG .d .l s

/-- LD D,A (R201). -/
def execLd_D_A (s : State) : Exec := ldRG .d .a s

/-- LD E,B (R201). -/
def execLd_E_B (s : State) : Exec := ldRG .e .b s

/-- LD E,C (R201). -/
def execLd_E_C (s : State) : Exec := ldRG .e .c s

/-- LD E,D (R201). -/
def execLd_E_D (s : State) : Exec := ldRG .e .d s

/-- LD E,E (R201). -/
def execLd_E_E (s : State) : Exec := ldRG .e .e s

/-- LD E,H (R201). -/
def execLd_E_H (s : State) : Exec := ldRG .e .h s

/-- LD E,L (R201). -/
def execLd_E_L (s : State) : Exec := ldRG .e .l s

/-- LD E,A (R201). -/
def execLd_E_A (s : State) : Exec := ldRG .e .a s

/-- LD H,B (R201). -/
def execLd_H_B (s : State) : Exec := ldRG .h .b s

/-- LD H,C (R201). -/
def execLd_H_C (s : State) : Exec := ldRG .h .c s

/-- LD H,D (R201). -/
def execLd_H_D (s : State) : Exec := ldRG .h .d s

/-- LD H,E (R201). -/
def execLd_H_E (s : State) : Exec := ldRG .h .e s

/-- LD H,H (R201). -/
def execLd_H_H (s : State) : Exec := ldRG .h .h s

/-- LD H,L (R201). -/
def execLd_H_L (s : State) : Exec := ldRG .h .l s

/-- LD H,A (R201). -/
def execLd_H_A (s : State) : Exec := ldRG .h .a s

/-- LD L,B (R201). -/
def execLd_L_B (s : State) : Exec := ldRG .l .b s

/-- LD L,C (R201). -/
def execLd_L_C (s : State) : Exec := ldRG .l .c s

/-- LD L,D (R201). -/
def execLd_L_D (s : State) : Exec := ldRG .l .d s

/-- LD L,E (R201). -/
def execLd_L_E (s : State) : Exec := ldRG .l .e s

/-- LD L,H (R201). -/
def execLd_L_H (s : State) : Exec := ldRG .l .h s

/-- LD L,L (R201). -/
def execLd_L_L (s : State) : Exec := ldRG .l .l s

/-- LD L,A (R201). -/
def execLd_L_A (s : State) : Exec := ldRG .l .a s

/-- LD A,B (R201). -/
def execLd_A_B (s : State) : Exec := ldRG .a .b s

/-- LD A,C (R201). -/
def execLd_A_C (s : State) : Exec := ldRG .a .c s

/-- LD A,D (R201). -/
def execLd_A_D (s : State) : Exec := ldRG .a .d s

/-- LD A,E (R201). -/
def execLd_A_E (s : State) : Exec := ldRG .a .e s

/-- LD A,H (R201). -/
def execLd_A_H (s : State) : Exec := ldRG .a .h s

/-- LD A,L (R201). -/
def execLd_A_L (s : State) : Exec := ldRG .a .l s

/-- LD A,A (R201). -/
def execLd_A_A (s : State) : Exec := ldRG .a .a s

/-- LD B,n (R202). -/
def execLd_B_n (n : Byte) (s : State) : Exec := ldRN .b n s

/-- LD C,n (R202). -/
def execLd_C_n (n : Byte) (s : State) : Exec := ldRN .c n s

/-- LD D,n (R202). -/
def execLd_D_n (n : Byte) (s : State) : Exec := ldRN .d n s

/-- LD E,n (R202). -/
def execLd_E_n (n : Byte) (s : State) : Exec := ldRN .e n s

/-- LD H,n (R202). -/
def execLd_H_n (n : Byte) (s : State) : Exec := ldRN .h n s

/-- LD L,n (R202). -/
def execLd_L_n (n : Byte) (s : State) : Exec := ldRN .l n s

/-- LD A,n (R202). -/
def execLd_A_n (n : Byte) (s : State) : Exec := ldRN .a n s

/-- LD B,(HL) (R203). -/
def execLd_B_atHL (s : State) : Exec := ldRAtHL .b s

/-- LD C,(HL) (R203). -/
def execLd_C_atHL (s : State) : Exec := ldRAtHL .c s

/-- LD D,(HL) (R203). -/
def execLd_D_atHL (s : State) : Exec := ldRAtHL .d s

/-- LD E,(HL) (R203). -/
def execLd_E_atHL (s : State) : Exec := ldRAtHL .e s

/-- LD H,(HL) (R203). -/
def execLd_H_atHL (s : State) : Exec := ldRAtHL .h s

/-- LD L,(HL) (R203). -/
def execLd_L_atHL (s : State) : Exec := ldRAtHL .l s

/-- LD A,(HL) (R203). -/
def execLd_A_atHL (s : State) : Exec := ldRAtHL .a s

/-- LD B,(IX+d) (R204). -/
def execLd_B_atIXd (d : Byte) (s : State) : Exec := ldRAtIdx .ix .b d s

/-- LD C,(IX+d) (R204). -/
def execLd_C_atIXd (d : Byte) (s : State) : Exec := ldRAtIdx .ix .c d s

/-- LD D,(IX+d) (R204). -/
def execLd_D_atIXd (d : Byte) (s : State) : Exec := ldRAtIdx .ix .d d s

/-- LD E,(IX+d) (R204). -/
def execLd_E_atIXd (d : Byte) (s : State) : Exec := ldRAtIdx .ix .e d s

/-- LD H,(IX+d) (R204). -/
def execLd_H_atIXd (d : Byte) (s : State) : Exec := ldRAtIdx .ix .h d s

/-- LD L,(IX+d) (R204). -/
def execLd_L_atIXd (d : Byte) (s : State) : Exec := ldRAtIdx .ix .l d s

/-- LD A,(IX+d) (R204). -/
def execLd_A_atIXd (d : Byte) (s : State) : Exec := ldRAtIdx .ix .a d s

/-- LD B,(IY+d) (R205). -/
def execLd_B_atIYd (d : Byte) (s : State) : Exec := ldRAtIdx .iy .b d s

/-- LD C,(IY+d) (R205). -/
def execLd_C_atIYd (d : Byte) (s : State) : Exec := ldRAtIdx .iy .c d s

/-- LD D,(IY+d) (R205). -/
def execLd_D_atIYd (d : Byte) (s : State) : Exec := ldRAtIdx .iy .d d s

/-- LD E,(IY+d) (R205). -/
def execLd_E_atIYd (d : Byte) (s : State) : Exec := ldRAtIdx .iy .e d s

/-- LD H,(IY+d) (R205). -/
def execLd_H_atIYd (d : Byte) (s : State) : Exec := ldRAtIdx .iy .h d s

/-- LD L,(IY+d) (R205). -/
def execLd_L_atIYd (d : Byte) (s : State) : Exec := ldRAtIdx .iy .l d s

/-- LD A,(IY+d) (R205). -/
def execLd_A_atIYd (d : Byte) (s : State) : Exec := ldRAtIdx .iy .a d s

/-- LD (HL),B (R206). -/
def execLd_atHL_B (s : State) : Exec := ldAtHLR .b s

/-- LD (HL),C (R206). -/
def execLd_atHL_C (s : State) : Exec := ldAtHLR .c s

/-- LD (HL),D (R206). -/
def execLd_atHL_D (s : State) : Exec := ldAtHLR .d s

/-- LD (HL),E (R206). -/
def execLd_atHL_E (s : State) : Exec := ldAtHLR .e s

/-- LD (HL),H (R206). -/
def execLd_atHL_H (s : State) : Exec := ldAtHLR .h s

/-- LD (HL),L (R206). -/
def execLd_atHL_L (s : State) : Exec := ldAtHLR .l s

/-- LD (HL),A (R206). -/
def execLd_atHL_A (s : State) : Exec := ldAtHLR .a s

/-- LD (HL),n (R207). -/
def execLd_atHL_n (n : Byte) (s : State) : Exec := .next (s.dataWrite8 s.hl n)

/-- LD (IX+d),B (R208). -/
def execLd_atIXd_B (d : Byte) (s : State) : Exec := ldAtIdxR .ix .b d s

/-- LD (IX+d),C (R208). -/
def execLd_atIXd_C (d : Byte) (s : State) : Exec := ldAtIdxR .ix .c d s

/-- LD (IX+d),D (R208). -/
def execLd_atIXd_D (d : Byte) (s : State) : Exec := ldAtIdxR .ix .d d s

/-- LD (IX+d),E (R208). -/
def execLd_atIXd_E (d : Byte) (s : State) : Exec := ldAtIdxR .ix .e d s

/-- LD (IX+d),H (R208). -/
def execLd_atIXd_H (d : Byte) (s : State) : Exec := ldAtIdxR .ix .h d s

/-- LD (IX+d),L (R208). -/
def execLd_atIXd_L (d : Byte) (s : State) : Exec := ldAtIdxR .ix .l d s

/-- LD (IX+d),A (R208). -/
def execLd_atIXd_A (d : Byte) (s : State) : Exec := ldAtIdxR .ix .a d s

/-- LD (IX+d),n (R209). -/
def execLd_atIXd_n (d : Byte) (n : Byte) (s : State) : Exec := ldAtIdxN .ix d n s

/-- LD (IY+d),B (R210). -/
def execLd_atIYd_B (d : Byte) (s : State) : Exec := ldAtIdxR .iy .b d s

/-- LD (IY+d),C (R210). -/
def execLd_atIYd_C (d : Byte) (s : State) : Exec := ldAtIdxR .iy .c d s

/-- LD (IY+d),D (R210). -/
def execLd_atIYd_D (d : Byte) (s : State) : Exec := ldAtIdxR .iy .d d s

/-- LD (IY+d),E (R210). -/
def execLd_atIYd_E (d : Byte) (s : State) : Exec := ldAtIdxR .iy .e d s

/-- LD (IY+d),H (R210). -/
def execLd_atIYd_H (d : Byte) (s : State) : Exec := ldAtIdxR .iy .h d s

/-- LD (IY+d),L (R210). -/
def execLd_atIYd_L (d : Byte) (s : State) : Exec := ldAtIdxR .iy .l d s

/-- LD (IY+d),A (R210). -/
def execLd_atIYd_A (d : Byte) (s : State) : Exec := ldAtIdxR .iy .a d s

/-- LD (IY+d),n (R211). -/
def execLd_atIYd_n (d : Byte) (n : Byte) (s : State) : Exec := ldAtIdxN .iy d n s

/-- LD A,(BC) (R212). -/
def execLd_A_atBC (s : State) : Exec := loadR .a s.bc s

/-- LD A,(DE) (R213). -/
def execLd_A_atDE (s : State) : Exec := loadR .a s.de s

/-- LD A,(mn) (R214). -/
def execLd_A_atMn (mn : Word) (s : State) : Exec := loadR .a mn s

/-- LD (BC),A (R215). -/
def execLd_atBC_A (s : State) : Exec := .next (s.dataWrite8 s.bc s.main.a)

/-- LD (DE),A (R216). -/
def execLd_atDE_A (s : State) : Exec := .next (s.dataWrite8 s.de s.main.a)

/-- LD (mn),A (R217). -/
def execLd_atMn_A (mn : Word) (s : State) : Exec := .next (s.dataWrite8 mn s.main.a)

/-- LD A,EIR (R218). -/
def execLd_A_EIR (s : State) : Exec := .next ((s.dst8 .a s.eir).setFlags (loadFlags s.eir))

/-- LD A,IIR (R219). -/
def execLd_A_IIR (s : State) : Exec := .next ((s.dst8 .a s.iir).setFlags (loadFlags s.iir))

/-- LD EIR,A (R220). -/
def execLd_EIR_A (s : State) : Exec := .next { s with eir := s.main.a }

/-- LD IIR,A (R221). -/
def execLd_IIR_A (s : State) : Exec := .next { s with iir := s.main.a }

/-- LD A,XPC (R222), privileged. -/
def execLd_A_XPC (s : State) : Exec := .next (s.dst8 .a s.xpc).privileged

/-- LD XPC,A (R223), privileged. -/
def execLd_XPC_A (s : State) : Exec := .next { s with xpc := s.main.a }.privileged

end Sys2Proof.Machine
end

