-- ==== Sys2Proof/Machine/RotateShift.lean ====
section
/-! DEFINITION. The rotate and shift instructions (45_rotate_shift.md R441-R477). -/

namespace Sys2Proof.Machine

/-! ## Operations of the family -/

/-- The one-byte accumulator rotates: A and C, no other flag (R441-R444). -/
def rotA (op : RotOp) (s : State) : Exec :=
  let v := rot8 op s.main.a s.main.f.c
  .next ((s.dst8 .a v.1).setFlags { c := some v.2 })

/-- A rotate or shift of r (R445, R449, R453, R457, R461, R465, R469). -/
def rotR (op : RotOp) (r : Reg8) (s : State) : Exec :=
  let v := rot8 op (s.main.get r) s.main.f.c
  .next ((s.dst8 r v.1).setFlags (shiftFlags8 v.1 v.2))

/-- A rotate or shift of a memory or I/O operand: read, compute, write, flags. -/
def rotMem (op : RotOp) (a : Word) (s : State) : Exec :=
  let rd := s.dataRead8 a
  let v := rot8 op rd.1 s.main.f.c
  .next ((rd.2.dataWrite8 a v.1).setFlags (shiftFlags8 v.1 v.2))

/-- A rotate or shift of (HL) (R446, R450, R454, R458, R462, R466, R470). -/
def rotAtHL (op : RotOp) (s : State) : Exec := rotMem op s.hl s

/-- A rotate or shift of (IX+d) or (IY+d) (R447, R448, R451, R452, R455, R456, R459, R460, R463, R464, R467, R468,
R471, R472). -/
def rotAtIdx (op : RotOp) (x : Idx) (d : Byte) (s : State) : Exec := rotMem op (s.idxAddr x d) s

/-- RR IX and RR IY (R476, R477). -/
def rrIdx (x : Idx) (s : State) : Exec :=
  let v := rr16 (s.idx x) s.main.f.c
  .next ((s.setIdx x v.1).setFlags (shiftFlags16 v.1 v.2))

/-! ## The rows -/

/-- RLCA (R441). -/
def execRlca (s : State) : Exec := rotA .rlc s

/-- RLA (R442). -/
def execRla (s : State) : Exec := rotA .rl s

/-- RRCA (R443). -/
def execRrca (s : State) : Exec := rotA .rrc s

/-- RRA (R444). -/
def execRra (s : State) : Exec := rotA .rr s

/-- RLC B (R445). -/
def execRlc_B (s : State) : Exec := rotR .rlc .b s

/-- RLC C (R445). -/
def execRlc_C (s : State) : Exec := rotR .rlc .c s

/-- RLC D (R445). -/
def execRlc_D (s : State) : Exec := rotR .rlc .d s

/-- RLC E (R445). -/
def execRlc_E (s : State) : Exec := rotR .rlc .e s

/-- RLC H (R445). -/
def execRlc_H (s : State) : Exec := rotR .rlc .h s

/-- RLC L (R445). -/
def execRlc_L (s : State) : Exec := rotR .rlc .l s

/-- RLC A (R445). -/
def execRlc_A (s : State) : Exec := rotR .rlc .a s

/-- RLC (HL) (R446). -/
def execRlc_atHL (s : State) : Exec := rotAtHL .rlc s

/-- RLC (IX+d) (R447). -/
def execRlc_atIXd (d : Byte) (s : State) : Exec := rotAtIdx .rlc .ix d s

/-- RLC (IY+d) (R448). -/
def execRlc_atIYd (d : Byte) (s : State) : Exec := rotAtIdx .rlc .iy d s

/-- RL B (R449). -/
def execRl_B (s : State) : Exec := rotR .rl .b s

/-- RL C (R449). -/
def execRl_C (s : State) : Exec := rotR .rl .c s

/-- RL D (R449). -/
def execRl_D (s : State) : Exec := rotR .rl .d s

/-- RL E (R449). -/
def execRl_E (s : State) : Exec := rotR .rl .e s

/-- RL H (R449). -/
def execRl_H (s : State) : Exec := rotR .rl .h s

/-- RL L (R449). -/
def execRl_L (s : State) : Exec := rotR .rl .l s

/-- RL A (R449). -/
def execRl_A (s : State) : Exec := rotR .rl .a s

/-- RL (HL) (R450). -/
def execRl_atHL (s : State) : Exec := rotAtHL .rl s

/-- RL (IX+d) (R451). -/
def execRl_atIXd (d : Byte) (s : State) : Exec := rotAtIdx .rl .ix d s

/-- RL (IY+d) (R452). -/
def execRl_atIYd (d : Byte) (s : State) : Exec := rotAtIdx .rl .iy d s

/-- RRC B (R453). -/
def execRrc_B (s : State) : Exec := rotR .rrc .b s

/-- RRC C (R453). -/
def execRrc_C (s : State) : Exec := rotR .rrc .c s

/-- RRC D (R453). -/
def execRrc_D (s : State) : Exec := rotR .rrc .d s

/-- RRC E (R453). -/
def execRrc_E (s : State) : Exec := rotR .rrc .e s

/-- RRC H (R453). -/
def execRrc_H (s : State) : Exec := rotR .rrc .h s

/-- RRC L (R453). -/
def execRrc_L (s : State) : Exec := rotR .rrc .l s

/-- RRC A (R453). -/
def execRrc_A (s : State) : Exec := rotR .rrc .a s

/-- RRC (HL) (R454). -/
def execRrc_atHL (s : State) : Exec := rotAtHL .rrc s

/-- RRC (IX+d) (R455). -/
def execRrc_atIXd (d : Byte) (s : State) : Exec := rotAtIdx .rrc .ix d s

/-- RRC (IY+d) (R456). -/
def execRrc_atIYd (d : Byte) (s : State) : Exec := rotAtIdx .rrc .iy d s

/-- RR B (R457). -/
def execRr_B (s : State) : Exec := rotR .rr .b s

/-- RR C (R457). -/
def execRr_C (s : State) : Exec := rotR .rr .c s

/-- RR D (R457). -/
def execRr_D (s : State) : Exec := rotR .rr .d s

/-- RR E (R457). -/
def execRr_E (s : State) : Exec := rotR .rr .e s

/-- RR H (R457). -/
def execRr_H (s : State) : Exec := rotR .rr .h s

/-- RR L (R457). -/
def execRr_L (s : State) : Exec := rotR .rr .l s

/-- RR A (R457). -/
def execRr_A (s : State) : Exec := rotR .rr .a s

/-- RR (HL) (R458). -/
def execRr_atHL (s : State) : Exec := rotAtHL .rr s

/-- RR (IX+d) (R459). -/
def execRr_atIXd (d : Byte) (s : State) : Exec := rotAtIdx .rr .ix d s

/-- RR (IY+d) (R460). -/
def execRr_atIYd (d : Byte) (s : State) : Exec := rotAtIdx .rr .iy d s

/-- SLA B (R461). -/
def execSla_B (s : State) : Exec := rotR .sla .b s

/-- SLA C (R461). -/
def execSla_C (s : State) : Exec := rotR .sla .c s

/-- SLA D (R461). -/
def execSla_D (s : State) : Exec := rotR .sla .d s

/-- SLA E (R461). -/
def execSla_E (s : State) : Exec := rotR .sla .e s

/-- SLA H (R461). -/
def execSla_H (s : State) : Exec := rotR .sla .h s

/-- SLA L (R461). -/
def execSla_L (s : State) : Exec := rotR .sla .l s

/-- SLA A (R461). -/
def execSla_A (s : State) : Exec := rotR .sla .a s

/-- SLA (HL) (R462). -/
def execSla_atHL (s : State) : Exec := rotAtHL .sla s

/-- SLA (IX+d) (R463). -/
def execSla_atIXd (d : Byte) (s : State) : Exec := rotAtIdx .sla .ix d s

/-- SLA (IY+d) (R464). -/
def execSla_atIYd (d : Byte) (s : State) : Exec := rotAtIdx .sla .iy d s

/-- SRA B (R465). -/
def execSra_B (s : State) : Exec := rotR .sra .b s

/-- SRA C (R465). -/
def execSra_C (s : State) : Exec := rotR .sra .c s

/-- SRA D (R465). -/
def execSra_D (s : State) : Exec := rotR .sra .d s

/-- SRA E (R465). -/
def execSra_E (s : State) : Exec := rotR .sra .e s

/-- SRA H (R465). -/
def execSra_H (s : State) : Exec := rotR .sra .h s

/-- SRA L (R465). -/
def execSra_L (s : State) : Exec := rotR .sra .l s

/-- SRA A (R465). -/
def execSra_A (s : State) : Exec := rotR .sra .a s

/-- SRA (HL) (R466). -/
def execSra_atHL (s : State) : Exec := rotAtHL .sra s

/-- SRA (IX+d) (R467). -/
def execSra_atIXd (d : Byte) (s : State) : Exec := rotAtIdx .sra .ix d s

/-- SRA (IY+d) (R468). -/
def execSra_atIYd (d : Byte) (s : State) : Exec := rotAtIdx .sra .iy d s

/-- SRL B (R469). -/
def execSrl_B (s : State) : Exec := rotR .srl .b s

/-- SRL C (R469). -/
def execSrl_C (s : State) : Exec := rotR .srl .c s

/-- SRL D (R469). -/
def execSrl_D (s : State) : Exec := rotR .srl .d s

/-- SRL E (R469). -/
def execSrl_E (s : State) : Exec := rotR .srl .e s

/-- SRL H (R469). -/
def execSrl_H (s : State) : Exec := rotR .srl .h s

/-- SRL L (R469). -/
def execSrl_L (s : State) : Exec := rotR .srl .l s

/-- SRL A (R469). -/
def execSrl_A (s : State) : Exec := rotR .srl .a s

/-- SRL (HL) (R470). -/
def execSrl_atHL (s : State) : Exec := rotAtHL .srl s

/-- SRL (IX+d) (R471). -/
def execSrl_atIXd (d : Byte) (s : State) : Exec := rotAtIdx .srl .ix d s

/-- SRL (IY+d) (R472). -/
def execSrl_atIYd (d : Byte) (s : State) : Exec := rotAtIdx .srl .iy d s

/-- RL DE (R473). -/
def execRl_DE (s : State) : Exec :=
  let v := rl16 s.de s.main.f.c
  .next ((s.dst16 .de v.1).setFlags (shiftFlags16 v.1 v.2))

/-- RR DE (R474). -/
def execRr_DE (s : State) : Exec :=
  let v := rr16 s.de s.main.f.c
  .next ((s.dst16 .de v.1).setFlags (shiftFlags16 v.1 v.2))

/-- RR HL (R475). -/
def execRr_HL (s : State) : Exec :=
  let v := rr16 s.hl s.main.f.c
  .next ((s.dst16 .hl v.1).setFlags (shiftFlags16 v.1 v.2))

/-- RR IX (R476). -/
def execRr_IX (s : State) : Exec := rrIdx .ix s

/-- RR IY (R477). -/
def execRr_IY (s : State) : Exec := rrIdx .iy s

end Sys2Proof.Machine
end

