-- ==== Sys2Proof/Machine/StackExchange.lean ====
section
/-! DEFINITION. The stack and exchange instructions (42_stack_exchange.md R301-R317). -/

namespace Sys2Proof.Machine

/-! ## Operations of the family -/

/-- A pair of field zz as a 16-bit value; AF is `{A, F}` (10_state.md R32). -/
def Bank.getZz (k : Bank) : Zz → Word
  | .bc => k.pair .bc
  | .de => k.pair .de
  | .hl => k.pair .hl
  | .af => mkWord k.a k.f.toByte

/-- Write a pair of field zz; AF takes all eight bits of F (R306). -/
def Bank.setZz (k : Bank) (z : Zz) (v : Word) : Bank :=
  match z with
  | .bc => k.setPair .bc v
  | .de => k.setPair .de v
  | .hl => k.setPair .hl v
  | .af => { k with a := hiByte v, f := Flags.ofByte (loByte v) }

/-- PUSH zz (R301). -/
def pushZz (z : Zz) (s : State) : Exec := .next (s.push16 (s.main.getZz z))

/-- PUSH IX and PUSH IY (R302, R303). -/
def pushIdx (x : Idx) (s : State) : Exec := .next (s.push16 (s.idx x))

/-- POP zz (R306): `Dst16(zz)`. -/
def popZz (z : Zz) (s : State) : Exec := .next ((s.dropStack 2).updDest (fun k => k.setZz z s.top16))

/-- POP IX and POP IY (R307, R308). -/
def popIdx (x : Idx) (s : State) : Exec := .next ((s.dropStack 2).setIdx x s.top16)

/-- EX (SP),IX and EX (SP),IY (R316, R317): reads before writes, low byte first. -/
def exAtSPIdx (x : Idx) (s : State) : Exec := .next ((s.memWrite16 s.sp (s.idx x)).setIdx x s.top16)

/-! ## The rows -/

/-- PUSH BC (R301). -/
def execPush_BC (s : State) : Exec := pushZz .bc s

/-- PUSH DE (R301). -/
def execPush_DE (s : State) : Exec := pushZz .de s

/-- PUSH HL (R301). -/
def execPush_HL (s : State) : Exec := pushZz .hl s

/-- PUSH AF (R301). -/
def execPush_AF (s : State) : Exec := pushZz .af s

/-- PUSH IX (R302). -/
def execPush_IX (s : State) : Exec := pushIdx .ix s

/-- PUSH IY (R303). -/
def execPush_IY (s : State) : Exec := pushIdx .iy s

/-- PUSH IP (R304): one byte, not privileged. -/
def execPush_IP (s : State) : Exec := .next (s.push8 s.ip)

/-- PUSH SU (R305): one byte, privileged. -/
def execPush_SU (s : State) : Exec := .next (s.push8 s.su).privileged

/-- POP BC (R306). -/
def execPop_BC (s : State) : Exec := popZz .bc s

/-- POP DE (R306). -/
def execPop_DE (s : State) : Exec := popZz .de s

/-- POP HL (R306). -/
def execPop_HL (s : State) : Exec := popZz .hl s

/-- POP AF (R306). -/
def execPop_AF (s : State) : Exec := popZz .af s

/-- POP IX (R307). -/
def execPop_IX (s : State) : Exec := popIdx .ix s

/-- POP IY (R308). -/
def execPop_IY (s : State) : Exec := popIdx .iy s

/-- POP IP (R309): all eight bits, privileged. -/
def execPop_IP (s : State) : Exec := .next { s.dropStack 1 with ip := s.top8 }.privileged

/-- POP SU (R310): all eight bits, privileged. -/
def execPop_SU (s : State) : Exec := .next { s.dropStack 1 with su := s.top8 }.privileged

/-- EX AF,AF' (R311): all sixteen bits. -/
def execEx_AF_AF' (s : State) : Exec :=
  .next { s with main := { s.main with a := s.alt.a, f := s.alt.f }
                 alt := { s.alt with a := s.main.a, f := s.main.f } }

/-- EXX (R312): BC, DE and HL of the two banks. -/
def execExx (s : State) : Exec :=
  .next { s with main := { s.alt with a := s.main.a, f := s.main.f }
                 alt := { s.main with a := s.alt.a, f := s.alt.f } }

/-- EX DE,HL (R313): the partner of DE is HL, under ALTD HL'. -/
def execEx_DE_HL (s : State) : Exec :=
  if s.ctx.altd then
    .next { s with main := s.main.setPair .de (s.alt.pair .hl), alt := s.alt.setPair .hl s.de }
  else
    .next { s with main := (s.main.setPair .de s.hl).setPair .hl s.de }

/-- EX DE',HL (R314): the partner of DE' is HL, under ALTD HL'. -/
def execEx_DE'_HL (s : State) : Exec :=
  if s.ctx.altd then
    .next { s with alt := (s.alt.setPair .de (s.alt.pair .hl)).setPair .hl (s.alt.pair .de) }
  else
    .next { s with alt := s.alt.setPair .de s.hl, main := s.main.setPair .hl (s.alt.pair .de) }

/-- EX (SP),HL (R315): memory receives main HL; the word read goes to HL, under ALTD to HL'. -/
def execEx_atSP_HL (s : State) : Exec := .next ((s.memWrite16 s.sp s.hl).dst16 .hl s.top16)

/-- EX (SP),IX (R316). -/
def execEx_atSP_IX (s : State) : Exec := exAtSPIdx .ix s

/-- EX (SP),IY (R317). -/
def execEx_atSP_IY (s : State) : Exec := exAtSPIdx .iy s

end Sys2Proof.Machine
end

