-- ==== Sys2Proof/Machine/System.lean ====
section
/-! DEFINITION. NOP, the three prefix bytes, and the interrupt-priority and System/User mode instructions
(49_prefix_system.md R570-R584). -/

namespace Sys2Proof.Machine

/-! ## Operations of the family -/

/-- An I/O prefix byte; a second one is refused (30_encoding.md R127, R142). -/
def ioMark (sp : IoSpace) (s : State) : Exec :=
  match s.ctx.iop with
  | none => .next { s with ctx := { s.ctx with iop := some sp } }
  | some _ => .refused .doubleIOPrefix

/-- IPSET p (R574-R577), privileged. -/
def ipset (p : BitVec 2) (s : State) : Exec := .next { s with ip := pushField s.ip p }.privileged

/-! ## The rows -/

/-- NOP (R570). -/
def execNop (s : State) : Exec := .next s

/-- ALTD (R571): the next instruction's marked destination and flags go to the alternate bank; a second one is refused
(30_encoding.md R127, R142). -/
def execAltd (s : State) : Exec :=
  if s.ctx.altd then .refused .doubleALTD else .next { s with ctx := { s.ctx with altd := true } }

/-- IOI (R572). -/
def execIoi (s : State) : Exec := ioMark .internal s

/-- IOE (R573). -/
def execIoe (s : State) : Exec := ioMark .external s

/-- IPSET 0 (R574). -/
def execIpset_0 (s : State) : Exec := ipset 0 s

/-- IPSET 1 (R575). -/
def execIpset_1 (s : State) : Exec := ipset 1 s

/-- IPSET 2 (R576). -/
def execIpset_2 (s : State) : Exec := ipset 2 s

/-- IPSET 3 (R577). -/
def execIpset_3 (s : State) : Exec := ipset 3 s

/-- IPRES (R578), privileged. -/
def execIpres (s : State) : Exec := .next { s with ip := rotateField s.ip }.privileged

/-- RETI (R579), privileged. -/
def execReti (s : State) : Exec := .next s.returnFromInterrupt.privileged

/-- IDET (R580): under ALTD LD E',E; else LD E,E, and the System Mode Violation is requested in user mode if
System/User mode is enabled. -/
def execIdet (s : State) : Exec :=
  if s.ctx.altd then .next (s.dst8 .e s.main.e)
  else .next { s with smvPending := s.smvPending || (s.platform.edmrEnabled && s.su.getLsbD 0) }

/-- RDMODE (R581): main F.C from SU[0], privileged. -/
def execRdmode (s : State) : Exec := .next (s.setMainFlags { c := some (s.su.getLsbD 0) }).privileged

/-- SETUSR (R582), privileged. -/
def execSetusr (s : State) : Exec := .next { s with su := pushField s.su 1 }.privileged

/-- SURES (R583), privileged. -/
def execSures (s : State) : Exec := .next { s with su := rotateField s.su }.privileged

/-- SYSCALL (R584): a call to `{IIR, 0x60}`; SU, IP and XPC are unchanged. -/
def execSyscall (s : State) : Exec := .next (s.callTo (mkWord s.iir 0x60))

end Sys2Proof.Machine
end

