-- ==== Sys2Proof/Machine/Dispatch.lean ====
section
/-! DEFINITION. The meaning of every instruction, by constructor: one call each. -/

namespace Sys2Proof.Machine

def exec (i : Instr) (s : State) : Host.Outcome State Fault Refusal :=
  match i with
  -- 8-bit loads (40_ld8.md)
  | .ld_B_B => Sys2Proof.Machine.execLd_B_B s
  | .ld_B_C => Sys2Proof.Machine.execLd_B_C s
  | .ld_B_D => Sys2Proof.Machine.execLd_B_D s
  | .ld_B_E => Sys2Proof.Machine.execLd_B_E s
  | .ld_B_H => Sys2Proof.Machine.execLd_B_H s
  | .ld_B_L => Sys2Proof.Machine.execLd_B_L s
  | .ld_B_A => Sys2Proof.Machine.execLd_B_A s
  | .ld_C_B => Sys2Proof.Machine.execLd_C_B s
  | .ld_C_C => Sys2Proof.Machine.execLd_C_C s
  | .ld_C_D => Sys2Proof.Machine.execLd_C_D s
  | .ld_C_E => Sys2Proof.Machine.execLd_C_E s
  | .ld_C_H => Sys2Proof.Machine.execLd_C_H s
  | .ld_C_L => Sys2Proof.Machine.execLd_C_L s
  | .ld_C_A => Sys2Proof.Machine.execLd_C_A s
  | .ld_D_B => Sys2Proof.Machine.execLd_D_B s
  | .ld_D_C => Sys2Proof.Machine.execLd_D_C s
  | .ld_D_D => Sys2Proof.Machine.execLd_D_D s
  | .ld_D_E => Sys2Proof.Machine.execLd_D_E s
  | .ld_D_H => Sys2Proof.Machine.execLd_D_H s
  | .ld_D_L => Sys2Proof.Machine.execLd_D_L s
  | .ld_D_A => Sys2Proof.Machine.execLd_D_A s
  | .ld_E_B => Sys2Proof.Machine.execLd_E_B s
  | .ld_E_C => Sys2Proof.Machine.execLd_E_C s
  | .ld_E_D => Sys2Proof.Machine.execLd_E_D s
  | .ld_E_E => Sys2Proof.Machine.execLd_E_E s
  | .ld_E_H => Sys2Proof.Machine.execLd_E_H s
  | .ld_E_L => Sys2Proof.Machine.execLd_E_L s
  | .ld_E_A => Sys2Proof.Machine.execLd_E_A s
  | .ld_H_B => Sys2Proof.Machine.execLd_H_B s
  | .ld_H_C => Sys2Proof.Machine.execLd_H_C s
  | .ld_H_D => Sys2Proof.Machine.execLd_H_D s
  | .ld_H_E => Sys2Proof.Machine.execLd_H_E s
  | .ld_H_H => Sys2Proof.Machine.execLd_H_H s
  | .ld_H_L => Sys2Proof.Machine.execLd_H_L s
  | .ld_H_A => Sys2Proof.Machine.execLd_H_A s
  | .ld_L_B => Sys2Proof.Machine.execLd_L_B s
  | .ld_L_C => Sys2Proof.Machine.execLd_L_C s
  | .ld_L_D => Sys2Proof.Machine.execLd_L_D s
  | .ld_L_E => Sys2Proof.Machine.execLd_L_E s
  | .ld_L_H => Sys2Proof.Machine.execLd_L_H s
  | .ld_L_L => Sys2Proof.Machine.execLd_L_L s
  | .ld_L_A => Sys2Proof.Machine.execLd_L_A s
  | .ld_A_B => Sys2Proof.Machine.execLd_A_B s
  | .ld_A_C => Sys2Proof.Machine.execLd_A_C s
  | .ld_A_D => Sys2Proof.Machine.execLd_A_D s
  | .ld_A_E => Sys2Proof.Machine.execLd_A_E s
  | .ld_A_H => Sys2Proof.Machine.execLd_A_H s
  | .ld_A_L => Sys2Proof.Machine.execLd_A_L s
  | .ld_A_A => Sys2Proof.Machine.execLd_A_A s
  | .ld_B_n n => Sys2Proof.Machine.execLd_B_n n s
  | .ld_C_n n => Sys2Proof.Machine.execLd_C_n n s
  | .ld_D_n n => Sys2Proof.Machine.execLd_D_n n s
  | .ld_E_n n => Sys2Proof.Machine.execLd_E_n n s
  | .ld_H_n n => Sys2Proof.Machine.execLd_H_n n s
  | .ld_L_n n => Sys2Proof.Machine.execLd_L_n n s
  | .ld_A_n n => Sys2Proof.Machine.execLd_A_n n s
  | .ld_B_atHL => Sys2Proof.Machine.execLd_B_atHL s
  | .ld_C_atHL => Sys2Proof.Machine.execLd_C_atHL s
  | .ld_D_atHL => Sys2Proof.Machine.execLd_D_atHL s
  | .ld_E_atHL => Sys2Proof.Machine.execLd_E_atHL s
  | .ld_H_atHL => Sys2Proof.Machine.execLd_H_atHL s
  | .ld_L_atHL => Sys2Proof.Machine.execLd_L_atHL s
  | .ld_A_atHL => Sys2Proof.Machine.execLd_A_atHL s
  | .ld_B_atIXd d => Sys2Proof.Machine.execLd_B_atIXd d s
  | .ld_C_atIXd d => Sys2Proof.Machine.execLd_C_atIXd d s
  | .ld_D_atIXd d => Sys2Proof.Machine.execLd_D_atIXd d s
  | .ld_E_atIXd d => Sys2Proof.Machine.execLd_E_atIXd d s
  | .ld_H_atIXd d => Sys2Proof.Machine.execLd_H_atIXd d s
  | .ld_L_atIXd d => Sys2Proof.Machine.execLd_L_atIXd d s
  | .ld_A_atIXd d => Sys2Proof.Machine.execLd_A_atIXd d s
  | .ld_B_atIYd d => Sys2Proof.Machine.execLd_B_atIYd d s
  | .ld_C_atIYd d => Sys2Proof.Machine.execLd_C_atIYd d s
  | .ld_D_atIYd d => Sys2Proof.Machine.execLd_D_atIYd d s
  | .ld_E_atIYd d => Sys2Proof.Machine.execLd_E_atIYd d s
  | .ld_H_atIYd d => Sys2Proof.Machine.execLd_H_atIYd d s
  | .ld_L_atIYd d => Sys2Proof.Machine.execLd_L_atIYd d s
  | .ld_A_atIYd d => Sys2Proof.Machine.execLd_A_atIYd d s
  | .ld_atHL_B => Sys2Proof.Machine.execLd_atHL_B s
  | .ld_atHL_C => Sys2Proof.Machine.execLd_atHL_C s
  | .ld_atHL_D => Sys2Proof.Machine.execLd_atHL_D s
  | .ld_atHL_E => Sys2Proof.Machine.execLd_atHL_E s
  | .ld_atHL_H => Sys2Proof.Machine.execLd_atHL_H s
  | .ld_atHL_L => Sys2Proof.Machine.execLd_atHL_L s
  | .ld_atHL_A => Sys2Proof.Machine.execLd_atHL_A s
  | .ld_atHL_n n => Sys2Proof.Machine.execLd_atHL_n n s
  | .ld_atIXd_B d => Sys2Proof.Machine.execLd_atIXd_B d s
  | .ld_atIXd_C d => Sys2Proof.Machine.execLd_atIXd_C d s
  | .ld_atIXd_D d => Sys2Proof.Machine.execLd_atIXd_D d s
  | .ld_atIXd_E d => Sys2Proof.Machine.execLd_atIXd_E d s
  | .ld_atIXd_H d => Sys2Proof.Machine.execLd_atIXd_H d s
  | .ld_atIXd_L d => Sys2Proof.Machine.execLd_atIXd_L d s
  | .ld_atIXd_A d => Sys2Proof.Machine.execLd_atIXd_A d s
  | .ld_atIXd_n d n => Sys2Proof.Machine.execLd_atIXd_n d n s
  | .ld_atIYd_B d => Sys2Proof.Machine.execLd_atIYd_B d s
  | .ld_atIYd_C d => Sys2Proof.Machine.execLd_atIYd_C d s
  | .ld_atIYd_D d => Sys2Proof.Machine.execLd_atIYd_D d s
  | .ld_atIYd_E d => Sys2Proof.Machine.execLd_atIYd_E d s
  | .ld_atIYd_H d => Sys2Proof.Machine.execLd_atIYd_H d s
  | .ld_atIYd_L d => Sys2Proof.Machine.execLd_atIYd_L d s
  | .ld_atIYd_A d => Sys2Proof.Machine.execLd_atIYd_A d s
  | .ld_atIYd_n d n => Sys2Proof.Machine.execLd_atIYd_n d n s
  | .ld_A_atBC => Sys2Proof.Machine.execLd_A_atBC s
  | .ld_A_atDE => Sys2Proof.Machine.execLd_A_atDE s
  | .ld_A_atMn mn => Sys2Proof.Machine.execLd_A_atMn mn s
  | .ld_atBC_A => Sys2Proof.Machine.execLd_atBC_A s
  | .ld_atDE_A => Sys2Proof.Machine.execLd_atDE_A s
  | .ld_atMn_A mn => Sys2Proof.Machine.execLd_atMn_A mn s
  | .ld_A_EIR => Sys2Proof.Machine.execLd_A_EIR s
  | .ld_A_IIR => Sys2Proof.Machine.execLd_A_IIR s
  | .ld_EIR_A => Sys2Proof.Machine.execLd_EIR_A s
  | .ld_IIR_A => Sys2Proof.Machine.execLd_IIR_A s
  | .ld_A_XPC => Sys2Proof.Machine.execLd_A_XPC s
  | .ld_XPC_A => Sys2Proof.Machine.execLd_XPC_A s
  -- 16-bit loads and LDP (41_ld16.md)
  | .ld_BC_mn mn => Sys2Proof.Machine.execLd_BC_mn mn s
  | .ld_DE_mn mn => Sys2Proof.Machine.execLd_DE_mn mn s
  | .ld_HL_mn mn => Sys2Proof.Machine.execLd_HL_mn mn s
  | .ld_SP_mn mn => Sys2Proof.Machine.execLd_SP_mn mn s
  | .ld_IX_mn mn => Sys2Proof.Machine.execLd_IX_mn mn s
  | .ld_IY_mn mn => Sys2Proof.Machine.execLd_IY_mn mn s
  | .ld_HL_atMn mn => Sys2Proof.Machine.execLd_HL_atMn mn s
  | .ld_BC_atMn mn => Sys2Proof.Machine.execLd_BC_atMn mn s
  | .ld_DE_atMn mn => Sys2Proof.Machine.execLd_DE_atMn mn s
  | .ld_HL_atMn_ed mn => Sys2Proof.Machine.execLd_HL_atMn_ed mn s
  | .ld_SP_atMn mn => Sys2Proof.Machine.execLd_SP_atMn mn s
  | .ld_IX_atMn mn => Sys2Proof.Machine.execLd_IX_atMn mn s
  | .ld_IY_atMn mn => Sys2Proof.Machine.execLd_IY_atMn mn s
  | .ld_atMn_HL mn => Sys2Proof.Machine.execLd_atMn_HL mn s
  | .ld_atMn_BC mn => Sys2Proof.Machine.execLd_atMn_BC mn s
  | .ld_atMn_DE mn => Sys2Proof.Machine.execLd_atMn_DE mn s
  | .ld_atMn_HL_ed mn => Sys2Proof.Machine.execLd_atMn_HL_ed mn s
  | .ld_atMn_SP mn => Sys2Proof.Machine.execLd_atMn_SP mn s
  | .ld_atMn_IX mn => Sys2Proof.Machine.execLd_atMn_IX mn s
  | .ld_atMn_IY mn => Sys2Proof.Machine.execLd_atMn_IY mn s
  | .ld_HL_atHLd d => Sys2Proof.Machine.execLd_HL_atHLd d s
  | .ld_HL_atIXd d => Sys2Proof.Machine.execLd_HL_atIXd d s
  | .ld_HL_atIYd d => Sys2Proof.Machine.execLd_HL_atIYd d s
  | .ld_atHLd_HL d => Sys2Proof.Machine.execLd_atHLd_HL d s
  | .ld_atIXd_HL d => Sys2Proof.Machine.execLd_atIXd_HL d s
  | .ld_atIYd_HL d => Sys2Proof.Machine.execLd_atIYd_HL d s
  | .ld_HL_atSPn n => Sys2Proof.Machine.execLd_HL_atSPn n s
  | .ld_IX_atSPn n => Sys2Proof.Machine.execLd_IX_atSPn n s
  | .ld_IY_atSPn n => Sys2Proof.Machine.execLd_IY_atSPn n s
  | .ld_atSPn_HL n => Sys2Proof.Machine.execLd_atSPn_HL n s
  | .ld_atSPn_IX n => Sys2Proof.Machine.execLd_atSPn_IX n s
  | .ld_atSPn_IY n => Sys2Proof.Machine.execLd_atSPn_IY n s
  | .ld_HL_IX => Sys2Proof.Machine.execLd_HL_IX s
  | .ld_HL_IY => Sys2Proof.Machine.execLd_HL_IY s
  | .ld_IX_HL => Sys2Proof.Machine.execLd_IX_HL s
  | .ld_IY_HL => Sys2Proof.Machine.execLd_IY_HL s
  | .ld_SP_HL => Sys2Proof.Machine.execLd_SP_HL s
  | .ld_SP_IX => Sys2Proof.Machine.execLd_SP_IX s
  | .ld_SP_IY => Sys2Proof.Machine.execLd_SP_IY s
  | .ld_BC'_BC => Sys2Proof.Machine.execLd_BC'_BC s
  | .ld_DE'_BC => Sys2Proof.Machine.execLd_DE'_BC s
  | .ld_HL'_BC => Sys2Proof.Machine.execLd_HL'_BC s
  | .ld_BC'_DE => Sys2Proof.Machine.execLd_BC'_DE s
  | .ld_DE'_DE => Sys2Proof.Machine.execLd_DE'_DE s
  | .ld_HL'_DE => Sys2Proof.Machine.execLd_HL'_DE s
  | .ldp_atHL_HL => Sys2Proof.Machine.execLdp_atHL_HL s
  | .ldp_atIX_HL => Sys2Proof.Machine.execLdp_atIX_HL s
  | .ldp_atIY_HL => Sys2Proof.Machine.execLdp_atIY_HL s
  | .ldp_atMn_HL mn => Sys2Proof.Machine.execLdp_atMn_HL mn s
  | .ldp_atMn_IX mn => Sys2Proof.Machine.execLdp_atMn_IX mn s
  | .ldp_atMn_IY mn => Sys2Proof.Machine.execLdp_atMn_IY mn s
  | .ldp_HL_atHL => Sys2Proof.Machine.execLdp_HL_atHL s
  | .ldp_HL_atIX => Sys2Proof.Machine.execLdp_HL_atIX s
  | .ldp_HL_atIY => Sys2Proof.Machine.execLdp_HL_atIY s
  | .ldp_HL_atMn mn => Sys2Proof.Machine.execLdp_HL_atMn mn s
  | .ldp_IX_atMn mn => Sys2Proof.Machine.execLdp_IX_atMn mn s
  | .ldp_IY_atMn mn => Sys2Proof.Machine.execLdp_IY_atMn mn s
  -- Stack and exchange (42_stack_exchange.md)
  | .push_BC => Sys2Proof.Machine.execPush_BC s
  | .push_DE => Sys2Proof.Machine.execPush_DE s
  | .push_HL => Sys2Proof.Machine.execPush_HL s
  | .push_AF => Sys2Proof.Machine.execPush_AF s
  | .push_IX => Sys2Proof.Machine.execPush_IX s
  | .push_IY => Sys2Proof.Machine.execPush_IY s
  | .push_IP => Sys2Proof.Machine.execPush_IP s
  | .push_SU => Sys2Proof.Machine.execPush_SU s
  | .pop_BC => Sys2Proof.Machine.execPop_BC s
  | .pop_DE => Sys2Proof.Machine.execPop_DE s
  | .pop_HL => Sys2Proof.Machine.execPop_HL s
  | .pop_AF => Sys2Proof.Machine.execPop_AF s
  | .pop_IX => Sys2Proof.Machine.execPop_IX s
  | .pop_IY => Sys2Proof.Machine.execPop_IY s
  | .pop_IP => Sys2Proof.Machine.execPop_IP s
  | .pop_SU => Sys2Proof.Machine.execPop_SU s
  | .ex_AF_AF' => Sys2Proof.Machine.execEx_AF_AF' s
  | .exx => Sys2Proof.Machine.execExx s
  | .ex_DE_HL => Sys2Proof.Machine.execEx_DE_HL s
  | .ex_DE'_HL => Sys2Proof.Machine.execEx_DE'_HL s
  | .ex_atSP_HL => Sys2Proof.Machine.execEx_atSP_HL s
  | .ex_atSP_IX => Sys2Proof.Machine.execEx_atSP_IX s
  | .ex_atSP_IY => Sys2Proof.Machine.execEx_atSP_IY s
  -- 8-bit arithmetic and logic (43_alu8.md)
  | .add_A_B => Sys2Proof.Machine.execAdd_A_B s
  | .add_A_C => Sys2Proof.Machine.execAdd_A_C s
  | .add_A_D => Sys2Proof.Machine.execAdd_A_D s
  | .add_A_E => Sys2Proof.Machine.execAdd_A_E s
  | .add_A_H => Sys2Proof.Machine.execAdd_A_H s
  | .add_A_L => Sys2Proof.Machine.execAdd_A_L s
  | .add_A_A => Sys2Proof.Machine.execAdd_A_A s
  | .add_A_n n => Sys2Proof.Machine.execAdd_A_n n s
  | .add_A_atHL => Sys2Proof.Machine.execAdd_A_atHL s
  | .add_A_atIXd d => Sys2Proof.Machine.execAdd_A_atIXd d s
  | .add_A_atIYd d => Sys2Proof.Machine.execAdd_A_atIYd d s
  | .adc_A_B => Sys2Proof.Machine.execAdc_A_B s
  | .adc_A_C => Sys2Proof.Machine.execAdc_A_C s
  | .adc_A_D => Sys2Proof.Machine.execAdc_A_D s
  | .adc_A_E => Sys2Proof.Machine.execAdc_A_E s
  | .adc_A_H => Sys2Proof.Machine.execAdc_A_H s
  | .adc_A_L => Sys2Proof.Machine.execAdc_A_L s
  | .adc_A_A => Sys2Proof.Machine.execAdc_A_A s
  | .adc_A_n n => Sys2Proof.Machine.execAdc_A_n n s
  | .adc_A_atHL => Sys2Proof.Machine.execAdc_A_atHL s
  | .adc_A_atIXd d => Sys2Proof.Machine.execAdc_A_atIXd d s
  | .adc_A_atIYd d => Sys2Proof.Machine.execAdc_A_atIYd d s
  | .sub_B => Sys2Proof.Machine.execSub_B s
  | .sub_C => Sys2Proof.Machine.execSub_C s
  | .sub_D => Sys2Proof.Machine.execSub_D s
  | .sub_E => Sys2Proof.Machine.execSub_E s
  | .sub_H => Sys2Proof.Machine.execSub_H s
  | .sub_L => Sys2Proof.Machine.execSub_L s
  | .sub_A => Sys2Proof.Machine.execSub_A s
  | .sub_n n => Sys2Proof.Machine.execSub_n n s
  | .sub_atHL => Sys2Proof.Machine.execSub_atHL s
  | .sub_atIXd d => Sys2Proof.Machine.execSub_atIXd d s
  | .sub_atIYd d => Sys2Proof.Machine.execSub_atIYd d s
  | .sbc_A_B => Sys2Proof.Machine.execSbc_A_B s
  | .sbc_A_C => Sys2Proof.Machine.execSbc_A_C s
  | .sbc_A_D => Sys2Proof.Machine.execSbc_A_D s
  | .sbc_A_E => Sys2Proof.Machine.execSbc_A_E s
  | .sbc_A_H => Sys2Proof.Machine.execSbc_A_H s
  | .sbc_A_L => Sys2Proof.Machine.execSbc_A_L s
  | .sbc_A_A => Sys2Proof.Machine.execSbc_A_A s
  | .sbc_A_n n => Sys2Proof.Machine.execSbc_A_n n s
  | .sbc_A_atHL => Sys2Proof.Machine.execSbc_A_atHL s
  | .sbc_A_atIXd d => Sys2Proof.Machine.execSbc_A_atIXd d s
  | .sbc_A_atIYd d => Sys2Proof.Machine.execSbc_A_atIYd d s
  | .and_B => Sys2Proof.Machine.execAnd_B s
  | .and_C => Sys2Proof.Machine.execAnd_C s
  | .and_D => Sys2Proof.Machine.execAnd_D s
  | .and_E => Sys2Proof.Machine.execAnd_E s
  | .and_H => Sys2Proof.Machine.execAnd_H s
  | .and_L => Sys2Proof.Machine.execAnd_L s
  | .and_A => Sys2Proof.Machine.execAnd_A s
  | .and_n n => Sys2Proof.Machine.execAnd_n n s
  | .and_atHL => Sys2Proof.Machine.execAnd_atHL s
  | .and_atIXd d => Sys2Proof.Machine.execAnd_atIXd d s
  | .and_atIYd d => Sys2Proof.Machine.execAnd_atIYd d s
  | .or_B => Sys2Proof.Machine.execOr_B s
  | .or_C => Sys2Proof.Machine.execOr_C s
  | .or_D => Sys2Proof.Machine.execOr_D s
  | .or_E => Sys2Proof.Machine.execOr_E s
  | .or_H => Sys2Proof.Machine.execOr_H s
  | .or_L => Sys2Proof.Machine.execOr_L s
  | .or_A => Sys2Proof.Machine.execOr_A s
  | .or_n n => Sys2Proof.Machine.execOr_n n s
  | .or_atHL => Sys2Proof.Machine.execOr_atHL s
  | .or_atIXd d => Sys2Proof.Machine.execOr_atIXd d s
  | .or_atIYd d => Sys2Proof.Machine.execOr_atIYd d s
  | .xor_B => Sys2Proof.Machine.execXor_B s
  | .xor_C => Sys2Proof.Machine.execXor_C s
  | .xor_D => Sys2Proof.Machine.execXor_D s
  | .xor_E => Sys2Proof.Machine.execXor_E s
  | .xor_H => Sys2Proof.Machine.execXor_H s
  | .xor_L => Sys2Proof.Machine.execXor_L s
  | .xor_A => Sys2Proof.Machine.execXor_A s
  | .xor_n n => Sys2Proof.Machine.execXor_n n s
  | .xor_atHL => Sys2Proof.Machine.execXor_atHL s
  | .xor_atIXd d => Sys2Proof.Machine.execXor_atIXd d s
  | .xor_atIYd d => Sys2Proof.Machine.execXor_atIYd d s
  | .cp_B => Sys2Proof.Machine.execCp_B s
  | .cp_C => Sys2Proof.Machine.execCp_C s
  | .cp_D => Sys2Proof.Machine.execCp_D s
  | .cp_E => Sys2Proof.Machine.execCp_E s
  | .cp_H => Sys2Proof.Machine.execCp_H s
  | .cp_L => Sys2Proof.Machine.execCp_L s
  | .cp_A => Sys2Proof.Machine.execCp_A s
  | .cp_n n => Sys2Proof.Machine.execCp_n n s
  | .cp_atHL => Sys2Proof.Machine.execCp_atHL s
  | .cp_atIXd d => Sys2Proof.Machine.execCp_atIXd d s
  | .cp_atIYd d => Sys2Proof.Machine.execCp_atIYd d s
  | .inc_B => Sys2Proof.Machine.execInc_B s
  | .inc_C => Sys2Proof.Machine.execInc_C s
  | .inc_D => Sys2Proof.Machine.execInc_D s
  | .inc_E => Sys2Proof.Machine.execInc_E s
  | .inc_H => Sys2Proof.Machine.execInc_H s
  | .inc_L => Sys2Proof.Machine.execInc_L s
  | .inc_A => Sys2Proof.Machine.execInc_A s
  | .inc_atHL => Sys2Proof.Machine.execInc_atHL s
  | .inc_atIXd d => Sys2Proof.Machine.execInc_atIXd d s
  | .inc_atIYd d => Sys2Proof.Machine.execInc_atIYd d s
  | .dec_B => Sys2Proof.Machine.execDec_B s
  | .dec_C => Sys2Proof.Machine.execDec_C s
  | .dec_D => Sys2Proof.Machine.execDec_D s
  | .dec_E => Sys2Proof.Machine.execDec_E s
  | .dec_H => Sys2Proof.Machine.execDec_H s
  | .dec_L => Sys2Proof.Machine.execDec_L s
  | .dec_A => Sys2Proof.Machine.execDec_A s
  | .dec_atHL => Sys2Proof.Machine.execDec_atHL s
  | .dec_atIXd d => Sys2Proof.Machine.execDec_atIXd d s
  | .dec_atIYd d => Sys2Proof.Machine.execDec_atIYd d s
  | .neg => Sys2Proof.Machine.execNeg s
  | .cpl => Sys2Proof.Machine.execCpl s
  | .ccf => Sys2Proof.Machine.execCcf s
  | .scf => Sys2Proof.Machine.execScf s
  -- 16-bit arithmetic and logic (44_alu16.md)
  | .add_HL_BC => Sys2Proof.Machine.execAdd_HL_BC s
  | .add_HL_DE => Sys2Proof.Machine.execAdd_HL_DE s
  | .add_HL_HL => Sys2Proof.Machine.execAdd_HL_HL s
  | .add_HL_SP => Sys2Proof.Machine.execAdd_HL_SP s
  | .add_IX_BC => Sys2Proof.Machine.execAdd_IX_BC s
  | .add_IX_DE => Sys2Proof.Machine.execAdd_IX_DE s
  | .add_IX_IX => Sys2Proof.Machine.execAdd_IX_IX s
  | .add_IX_SP => Sys2Proof.Machine.execAdd_IX_SP s
  | .add_IY_BC => Sys2Proof.Machine.execAdd_IY_BC s
  | .add_IY_DE => Sys2Proof.Machine.execAdd_IY_DE s
  | .add_IY_IY => Sys2Proof.Machine.execAdd_IY_IY s
  | .add_IY_SP => Sys2Proof.Machine.execAdd_IY_SP s
  | .add_SP_d d => Sys2Proof.Machine.execAdd_SP_d d s
  | .adc_HL_BC => Sys2Proof.Machine.execAdc_HL_BC s
  | .adc_HL_DE => Sys2Proof.Machine.execAdc_HL_DE s
  | .adc_HL_HL => Sys2Proof.Machine.execAdc_HL_HL s
  | .adc_HL_SP => Sys2Proof.Machine.execAdc_HL_SP s
  | .sbc_HL_BC => Sys2Proof.Machine.execSbc_HL_BC s
  | .sbc_HL_DE => Sys2Proof.Machine.execSbc_HL_DE s
  | .sbc_HL_HL => Sys2Proof.Machine.execSbc_HL_HL s
  | .sbc_HL_SP => Sys2Proof.Machine.execSbc_HL_SP s
  | .and_HL_DE => Sys2Proof.Machine.execAnd_HL_DE s
  | .and_IX_DE => Sys2Proof.Machine.execAnd_IX_DE s
  | .and_IY_DE => Sys2Proof.Machine.execAnd_IY_DE s
  | .or_HL_DE => Sys2Proof.Machine.execOr_HL_DE s
  | .or_IX_DE => Sys2Proof.Machine.execOr_IX_DE s
  | .or_IY_DE => Sys2Proof.Machine.execOr_IY_DE s
  | .bool_HL => Sys2Proof.Machine.execBool_HL s
  | .bool_IX => Sys2Proof.Machine.execBool_IX s
  | .bool_IY => Sys2Proof.Machine.execBool_IY s
  | .inc_BC => Sys2Proof.Machine.execInc_BC s
  | .inc_DE => Sys2Proof.Machine.execInc_DE s
  | .inc_HL => Sys2Proof.Machine.execInc_HL s
  | .inc_SP => Sys2Proof.Machine.execInc_SP s
  | .inc_IX => Sys2Proof.Machine.execInc_IX s
  | .inc_IY => Sys2Proof.Machine.execInc_IY s
  | .dec_BC => Sys2Proof.Machine.execDec_BC s
  | .dec_DE => Sys2Proof.Machine.execDec_DE s
  | .dec_HL => Sys2Proof.Machine.execDec_HL s
  | .dec_SP => Sys2Proof.Machine.execDec_SP s
  | .dec_IX => Sys2Proof.Machine.execDec_IX s
  | .dec_IY => Sys2Proof.Machine.execDec_IY s
  | .mul => Sys2Proof.Machine.execMul s
  -- Rotates and shifts (45_rotate_shift.md)
  | .rlca => Sys2Proof.Machine.execRlca s
  | .rla => Sys2Proof.Machine.execRla s
  | .rrca => Sys2Proof.Machine.execRrca s
  | .rra => Sys2Proof.Machine.execRra s
  | .rlc_B => Sys2Proof.Machine.execRlc_B s
  | .rlc_C => Sys2Proof.Machine.execRlc_C s
  | .rlc_D => Sys2Proof.Machine.execRlc_D s
  | .rlc_E => Sys2Proof.Machine.execRlc_E s
  | .rlc_H => Sys2Proof.Machine.execRlc_H s
  | .rlc_L => Sys2Proof.Machine.execRlc_L s
  | .rlc_A => Sys2Proof.Machine.execRlc_A s
  | .rlc_atHL => Sys2Proof.Machine.execRlc_atHL s
  | .rlc_atIXd d => Sys2Proof.Machine.execRlc_atIXd d s
  | .rlc_atIYd d => Sys2Proof.Machine.execRlc_atIYd d s
  | .rl_B => Sys2Proof.Machine.execRl_B s
  | .rl_C => Sys2Proof.Machine.execRl_C s
  | .rl_D => Sys2Proof.Machine.execRl_D s
  | .rl_E => Sys2Proof.Machine.execRl_E s
  | .rl_H => Sys2Proof.Machine.execRl_H s
  | .rl_L => Sys2Proof.Machine.execRl_L s
  | .rl_A => Sys2Proof.Machine.execRl_A s
  | .rl_atHL => Sys2Proof.Machine.execRl_atHL s
  | .rl_atIXd d => Sys2Proof.Machine.execRl_atIXd d s
  | .rl_atIYd d => Sys2Proof.Machine.execRl_atIYd d s
  | .rrc_B => Sys2Proof.Machine.execRrc_B s
  | .rrc_C => Sys2Proof.Machine.execRrc_C s
  | .rrc_D => Sys2Proof.Machine.execRrc_D s
  | .rrc_E => Sys2Proof.Machine.execRrc_E s
  | .rrc_H => Sys2Proof.Machine.execRrc_H s
  | .rrc_L => Sys2Proof.Machine.execRrc_L s
  | .rrc_A => Sys2Proof.Machine.execRrc_A s
  | .rrc_atHL => Sys2Proof.Machine.execRrc_atHL s
  | .rrc_atIXd d => Sys2Proof.Machine.execRrc_atIXd d s
  | .rrc_atIYd d => Sys2Proof.Machine.execRrc_atIYd d s
  | .rr_B => Sys2Proof.Machine.execRr_B s
  | .rr_C => Sys2Proof.Machine.execRr_C s
  | .rr_D => Sys2Proof.Machine.execRr_D s
  | .rr_E => Sys2Proof.Machine.execRr_E s
  | .rr_H => Sys2Proof.Machine.execRr_H s
  | .rr_L => Sys2Proof.Machine.execRr_L s
  | .rr_A => Sys2Proof.Machine.execRr_A s
  | .rr_atHL => Sys2Proof.Machine.execRr_atHL s
  | .rr_atIXd d => Sys2Proof.Machine.execRr_atIXd d s
  | .rr_atIYd d => Sys2Proof.Machine.execRr_atIYd d s
  | .sla_B => Sys2Proof.Machine.execSla_B s
  | .sla_C => Sys2Proof.Machine.execSla_C s
  | .sla_D => Sys2Proof.Machine.execSla_D s
  | .sla_E => Sys2Proof.Machine.execSla_E s
  | .sla_H => Sys2Proof.Machine.execSla_H s
  | .sla_L => Sys2Proof.Machine.execSla_L s
  | .sla_A => Sys2Proof.Machine.execSla_A s
  | .sla_atHL => Sys2Proof.Machine.execSla_atHL s
  | .sla_atIXd d => Sys2Proof.Machine.execSla_atIXd d s
  | .sla_atIYd d => Sys2Proof.Machine.execSla_atIYd d s
  | .sra_B => Sys2Proof.Machine.execSra_B s
  | .sra_C => Sys2Proof.Machine.execSra_C s
  | .sra_D => Sys2Proof.Machine.execSra_D s
  | .sra_E => Sys2Proof.Machine.execSra_E s
  | .sra_H => Sys2Proof.Machine.execSra_H s
  | .sra_L => Sys2Proof.Machine.execSra_L s
  | .sra_A => Sys2Proof.Machine.execSra_A s
  | .sra_atHL => Sys2Proof.Machine.execSra_atHL s
  | .sra_atIXd d => Sys2Proof.Machine.execSra_atIXd d s
  | .sra_atIYd d => Sys2Proof.Machine.execSra_atIYd d s
  | .srl_B => Sys2Proof.Machine.execSrl_B s
  | .srl_C => Sys2Proof.Machine.execSrl_C s
  | .srl_D => Sys2Proof.Machine.execSrl_D s
  | .srl_E => Sys2Proof.Machine.execSrl_E s
  | .srl_H => Sys2Proof.Machine.execSrl_H s
  | .srl_L => Sys2Proof.Machine.execSrl_L s
  | .srl_A => Sys2Proof.Machine.execSrl_A s
  | .srl_atHL => Sys2Proof.Machine.execSrl_atHL s
  | .srl_atIXd d => Sys2Proof.Machine.execSrl_atIXd d s
  | .srl_atIYd d => Sys2Proof.Machine.execSrl_atIYd d s
  | .rl_DE => Sys2Proof.Machine.execRl_DE s
  | .rr_DE => Sys2Proof.Machine.execRr_DE s
  | .rr_HL => Sys2Proof.Machine.execRr_HL s
  | .rr_IX => Sys2Proof.Machine.execRr_IX s
  | .rr_IY => Sys2Proof.Machine.execRr_IY s
  -- Bit test, reset and set (46_bit.md)
  | .bit_0_B => Sys2Proof.Machine.execBit_0_B s
  | .bit_0_C => Sys2Proof.Machine.execBit_0_C s
  | .bit_0_D => Sys2Proof.Machine.execBit_0_D s
  | .bit_0_E => Sys2Proof.Machine.execBit_0_E s
  | .bit_0_H => Sys2Proof.Machine.execBit_0_H s
  | .bit_0_L => Sys2Proof.Machine.execBit_0_L s
  | .bit_0_A => Sys2Proof.Machine.execBit_0_A s
  | .bit_1_B => Sys2Proof.Machine.execBit_1_B s
  | .bit_1_C => Sys2Proof.Machine.execBit_1_C s
  | .bit_1_D => Sys2Proof.Machine.execBit_1_D s
  | .bit_1_E => Sys2Proof.Machine.execBit_1_E s
  | .bit_1_H => Sys2Proof.Machine.execBit_1_H s
  | .bit_1_L => Sys2Proof.Machine.execBit_1_L s
  | .bit_1_A => Sys2Proof.Machine.execBit_1_A s
  | .bit_2_B => Sys2Proof.Machine.execBit_2_B s
  | .bit_2_C => Sys2Proof.Machine.execBit_2_C s
  | .bit_2_D => Sys2Proof.Machine.execBit_2_D s
  | .bit_2_E => Sys2Proof.Machine.execBit_2_E s
  | .bit_2_H => Sys2Proof.Machine.execBit_2_H s
  | .bit_2_L => Sys2Proof.Machine.execBit_2_L s
  | .bit_2_A => Sys2Proof.Machine.execBit_2_A s
  | .bit_3_B => Sys2Proof.Machine.execBit_3_B s
  | .bit_3_C => Sys2Proof.Machine.execBit_3_C s
  | .bit_3_D => Sys2Proof.Machine.execBit_3_D s
  | .bit_3_E => Sys2Proof.Machine.execBit_3_E s
  | .bit_3_H => Sys2Proof.Machine.execBit_3_H s
  | .bit_3_L => Sys2Proof.Machine.execBit_3_L s
  | .bit_3_A => Sys2Proof.Machine.execBit_3_A s
  | .bit_4_B => Sys2Proof.Machine.execBit_4_B s
  | .bit_4_C => Sys2Proof.Machine.execBit_4_C s
  | .bit_4_D => Sys2Proof.Machine.execBit_4_D s
  | .bit_4_E => Sys2Proof.Machine.execBit_4_E s
  | .bit_4_H => Sys2Proof.Machine.execBit_4_H s
  | .bit_4_L => Sys2Proof.Machine.execBit_4_L s
  | .bit_4_A => Sys2Proof.Machine.execBit_4_A s
  | .bit_5_B => Sys2Proof.Machine.execBit_5_B s
  | .bit_5_C => Sys2Proof.Machine.execBit_5_C s
  | .bit_5_D => Sys2Proof.Machine.execBit_5_D s
  | .bit_5_E => Sys2Proof.Machine.execBit_5_E s
  | .bit_5_H => Sys2Proof.Machine.execBit_5_H s
  | .bit_5_L => Sys2Proof.Machine.execBit_5_L s
  | .bit_5_A => Sys2Proof.Machine.execBit_5_A s
  | .bit_6_B => Sys2Proof.Machine.execBit_6_B s
  | .bit_6_C => Sys2Proof.Machine.execBit_6_C s
  | .bit_6_D => Sys2Proof.Machine.execBit_6_D s
  | .bit_6_E => Sys2Proof.Machine.execBit_6_E s
  | .bit_6_H => Sys2Proof.Machine.execBit_6_H s
  | .bit_6_L => Sys2Proof.Machine.execBit_6_L s
  | .bit_6_A => Sys2Proof.Machine.execBit_6_A s
  | .bit_7_B => Sys2Proof.Machine.execBit_7_B s
  | .bit_7_C => Sys2Proof.Machine.execBit_7_C s
  | .bit_7_D => Sys2Proof.Machine.execBit_7_D s
  | .bit_7_E => Sys2Proof.Machine.execBit_7_E s
  | .bit_7_H => Sys2Proof.Machine.execBit_7_H s
  | .bit_7_L => Sys2Proof.Machine.execBit_7_L s
  | .bit_7_A => Sys2Proof.Machine.execBit_7_A s
  | .bit_0_atHL => Sys2Proof.Machine.execBit_0_atHL s
  | .bit_1_atHL => Sys2Proof.Machine.execBit_1_atHL s
  | .bit_2_atHL => Sys2Proof.Machine.execBit_2_atHL s
  | .bit_3_atHL => Sys2Proof.Machine.execBit_3_atHL s
  | .bit_4_atHL => Sys2Proof.Machine.execBit_4_atHL s
  | .bit_5_atHL => Sys2Proof.Machine.execBit_5_atHL s
  | .bit_6_atHL => Sys2Proof.Machine.execBit_6_atHL s
  | .bit_7_atHL => Sys2Proof.Machine.execBit_7_atHL s
  | .bit_0_atIXd d => Sys2Proof.Machine.execBit_0_atIXd d s
  | .bit_1_atIXd d => Sys2Proof.Machine.execBit_1_atIXd d s
  | .bit_2_atIXd d => Sys2Proof.Machine.execBit_2_atIXd d s
  | .bit_3_atIXd d => Sys2Proof.Machine.execBit_3_atIXd d s
  | .bit_4_atIXd d => Sys2Proof.Machine.execBit_4_atIXd d s
  | .bit_5_atIXd d => Sys2Proof.Machine.execBit_5_atIXd d s
  | .bit_6_atIXd d => Sys2Proof.Machine.execBit_6_atIXd d s
  | .bit_7_atIXd d => Sys2Proof.Machine.execBit_7_atIXd d s
  | .bit_0_atIYd d => Sys2Proof.Machine.execBit_0_atIYd d s
  | .bit_1_atIYd d => Sys2Proof.Machine.execBit_1_atIYd d s
  | .bit_2_atIYd d => Sys2Proof.Machine.execBit_2_atIYd d s
  | .bit_3_atIYd d => Sys2Proof.Machine.execBit_3_atIYd d s
  | .bit_4_atIYd d => Sys2Proof.Machine.execBit_4_atIYd d s
  | .bit_5_atIYd d => Sys2Proof.Machine.execBit_5_atIYd d s
  | .bit_6_atIYd d => Sys2Proof.Machine.execBit_6_atIYd d s
  | .bit_7_atIYd d => Sys2Proof.Machine.execBit_7_atIYd d s
  | .res_0_B => Sys2Proof.Machine.execRes_0_B s
  | .res_0_C => Sys2Proof.Machine.execRes_0_C s
  | .res_0_D => Sys2Proof.Machine.execRes_0_D s
  | .res_0_E => Sys2Proof.Machine.execRes_0_E s
  | .res_0_H => Sys2Proof.Machine.execRes_0_H s
  | .res_0_L => Sys2Proof.Machine.execRes_0_L s
  | .res_0_A => Sys2Proof.Machine.execRes_0_A s
  | .res_1_B => Sys2Proof.Machine.execRes_1_B s
  | .res_1_C => Sys2Proof.Machine.execRes_1_C s
  | .res_1_D => Sys2Proof.Machine.execRes_1_D s
  | .res_1_E => Sys2Proof.Machine.execRes_1_E s
  | .res_1_H => Sys2Proof.Machine.execRes_1_H s
  | .res_1_L => Sys2Proof.Machine.execRes_1_L s
  | .res_1_A => Sys2Proof.Machine.execRes_1_A s
  | .res_2_B => Sys2Proof.Machine.execRes_2_B s
  | .res_2_C => Sys2Proof.Machine.execRes_2_C s
  | .res_2_D => Sys2Proof.Machine.execRes_2_D s
  | .res_2_E => Sys2Proof.Machine.execRes_2_E s
  | .res_2_H => Sys2Proof.Machine.execRes_2_H s
  | .res_2_L => Sys2Proof.Machine.execRes_2_L s
  | .res_2_A => Sys2Proof.Machine.execRes_2_A s
  | .res_3_B => Sys2Proof.Machine.execRes_3_B s
  | .res_3_C => Sys2Proof.Machine.execRes_3_C s
  | .res_3_D => Sys2Proof.Machine.execRes_3_D s
  | .res_3_E => Sys2Proof.Machine.execRes_3_E s
  | .res_3_H => Sys2Proof.Machine.execRes_3_H s
  | .res_3_L => Sys2Proof.Machine.execRes_3_L s
  | .res_3_A => Sys2Proof.Machine.execRes_3_A s
  | .res_4_B => Sys2Proof.Machine.execRes_4_B s
  | .res_4_C => Sys2Proof.Machine.execRes_4_C s
  | .res_4_D => Sys2Proof.Machine.execRes_4_D s
  | .res_4_E => Sys2Proof.Machine.execRes_4_E s
  | .res_4_H => Sys2Proof.Machine.execRes_4_H s
  | .res_4_L => Sys2Proof.Machine.execRes_4_L s
  | .res_4_A => Sys2Proof.Machine.execRes_4_A s
  | .res_5_B => Sys2Proof.Machine.execRes_5_B s
  | .res_5_C => Sys2Proof.Machine.execRes_5_C s
  | .res_5_D => Sys2Proof.Machine.execRes_5_D s
  | .res_5_E => Sys2Proof.Machine.execRes_5_E s
  | .res_5_H => Sys2Proof.Machine.execRes_5_H s
  | .res_5_L => Sys2Proof.Machine.execRes_5_L s
  | .res_5_A => Sys2Proof.Machine.execRes_5_A s
  | .res_6_B => Sys2Proof.Machine.execRes_6_B s
  | .res_6_C => Sys2Proof.Machine.execRes_6_C s
  | .res_6_D => Sys2Proof.Machine.execRes_6_D s
  | .res_6_E => Sys2Proof.Machine.execRes_6_E s
  | .res_6_H => Sys2Proof.Machine.execRes_6_H s
  | .res_6_L => Sys2Proof.Machine.execRes_6_L s
  | .res_6_A => Sys2Proof.Machine.execRes_6_A s
  | .res_7_B => Sys2Proof.Machine.execRes_7_B s
  | .res_7_C => Sys2Proof.Machine.execRes_7_C s
  | .res_7_D => Sys2Proof.Machine.execRes_7_D s
  | .res_7_E => Sys2Proof.Machine.execRes_7_E s
  | .res_7_H => Sys2Proof.Machine.execRes_7_H s
  | .res_7_L => Sys2Proof.Machine.execRes_7_L s
  | .res_7_A => Sys2Proof.Machine.execRes_7_A s
  | .res_0_atHL => Sys2Proof.Machine.execRes_0_atHL s
  | .res_1_atHL => Sys2Proof.Machine.execRes_1_atHL s
  | .res_2_atHL => Sys2Proof.Machine.execRes_2_atHL s
  | .res_3_atHL => Sys2Proof.Machine.execRes_3_atHL s
  | .res_4_atHL => Sys2Proof.Machine.execRes_4_atHL s
  | .res_5_atHL => Sys2Proof.Machine.execRes_5_atHL s
  | .res_6_atHL => Sys2Proof.Machine.execRes_6_atHL s
  | .res_7_atHL => Sys2Proof.Machine.execRes_7_atHL s
  | .res_0_atIXd d => Sys2Proof.Machine.execRes_0_atIXd d s
  | .res_1_atIXd d => Sys2Proof.Machine.execRes_1_atIXd d s
  | .res_2_atIXd d => Sys2Proof.Machine.execRes_2_atIXd d s
  | .res_3_atIXd d => Sys2Proof.Machine.execRes_3_atIXd d s
  | .res_4_atIXd d => Sys2Proof.Machine.execRes_4_atIXd d s
  | .res_5_atIXd d => Sys2Proof.Machine.execRes_5_atIXd d s
  | .res_6_atIXd d => Sys2Proof.Machine.execRes_6_atIXd d s
  | .res_7_atIXd d => Sys2Proof.Machine.execRes_7_atIXd d s
  | .res_0_atIYd d => Sys2Proof.Machine.execRes_0_atIYd d s
  | .res_1_atIYd d => Sys2Proof.Machine.execRes_1_atIYd d s
  | .res_2_atIYd d => Sys2Proof.Machine.execRes_2_atIYd d s
  | .res_3_atIYd d => Sys2Proof.Machine.execRes_3_atIYd d s
  | .res_4_atIYd d => Sys2Proof.Machine.execRes_4_atIYd d s
  | .res_5_atIYd d => Sys2Proof.Machine.execRes_5_atIYd d s
  | .res_6_atIYd d => Sys2Proof.Machine.execRes_6_atIYd d s
  | .res_7_atIYd d => Sys2Proof.Machine.execRes_7_atIYd d s
  | .set_0_B => Sys2Proof.Machine.execSet_0_B s
  | .set_0_C => Sys2Proof.Machine.execSet_0_C s
  | .set_0_D => Sys2Proof.Machine.execSet_0_D s
  | .set_0_E => Sys2Proof.Machine.execSet_0_E s
  | .set_0_H => Sys2Proof.Machine.execSet_0_H s
  | .set_0_L => Sys2Proof.Machine.execSet_0_L s
  | .set_0_A => Sys2Proof.Machine.execSet_0_A s
  | .set_1_B => Sys2Proof.Machine.execSet_1_B s
  | .set_1_C => Sys2Proof.Machine.execSet_1_C s
  | .set_1_D => Sys2Proof.Machine.execSet_1_D s
  | .set_1_E => Sys2Proof.Machine.execSet_1_E s
  | .set_1_H => Sys2Proof.Machine.execSet_1_H s
  | .set_1_L => Sys2Proof.Machine.execSet_1_L s
  | .set_1_A => Sys2Proof.Machine.execSet_1_A s
  | .set_2_B => Sys2Proof.Machine.execSet_2_B s
  | .set_2_C => Sys2Proof.Machine.execSet_2_C s
  | .set_2_D => Sys2Proof.Machine.execSet_2_D s
  | .set_2_E => Sys2Proof.Machine.execSet_2_E s
  | .set_2_H => Sys2Proof.Machine.execSet_2_H s
  | .set_2_L => Sys2Proof.Machine.execSet_2_L s
  | .set_2_A => Sys2Proof.Machine.execSet_2_A s
  | .set_3_B => Sys2Proof.Machine.execSet_3_B s
  | .set_3_C => Sys2Proof.Machine.execSet_3_C s
  | .set_3_D => Sys2Proof.Machine.execSet_3_D s
  | .set_3_E => Sys2Proof.Machine.execSet_3_E s
  | .set_3_H => Sys2Proof.Machine.execSet_3_H s
  | .set_3_L => Sys2Proof.Machine.execSet_3_L s
  | .set_3_A => Sys2Proof.Machine.execSet_3_A s
  | .set_4_B => Sys2Proof.Machine.execSet_4_B s
  | .set_4_C => Sys2Proof.Machine.execSet_4_C s
  | .set_4_D => Sys2Proof.Machine.execSet_4_D s
  | .set_4_E => Sys2Proof.Machine.execSet_4_E s
  | .set_4_H => Sys2Proof.Machine.execSet_4_H s
  | .set_4_L => Sys2Proof.Machine.execSet_4_L s
  | .set_4_A => Sys2Proof.Machine.execSet_4_A s
  | .set_5_B => Sys2Proof.Machine.execSet_5_B s
  | .set_5_C => Sys2Proof.Machine.execSet_5_C s
  | .set_5_D => Sys2Proof.Machine.execSet_5_D s
  | .set_5_E => Sys2Proof.Machine.execSet_5_E s
  | .set_5_H => Sys2Proof.Machine.execSet_5_H s
  | .set_5_L => Sys2Proof.Machine.execSet_5_L s
  | .set_5_A => Sys2Proof.Machine.execSet_5_A s
  | .set_6_B => Sys2Proof.Machine.execSet_6_B s
  | .set_6_C => Sys2Proof.Machine.execSet_6_C s
  | .set_6_D => Sys2Proof.Machine.execSet_6_D s
  | .set_6_E => Sys2Proof.Machine.execSet_6_E s
  | .set_6_H => Sys2Proof.Machine.execSet_6_H s
  | .set_6_L => Sys2Proof.Machine.execSet_6_L s
  | .set_6_A => Sys2Proof.Machine.execSet_6_A s
  | .set_7_B => Sys2Proof.Machine.execSet_7_B s
  | .set_7_C => Sys2Proof.Machine.execSet_7_C s
  | .set_7_D => Sys2Proof.Machine.execSet_7_D s
  | .set_7_E => Sys2Proof.Machine.execSet_7_E s
  | .set_7_H => Sys2Proof.Machine.execSet_7_H s
  | .set_7_L => Sys2Proof.Machine.execSet_7_L s
  | .set_7_A => Sys2Proof.Machine.execSet_7_A s
  | .set_0_atHL => Sys2Proof.Machine.execSet_0_atHL s
  | .set_1_atHL => Sys2Proof.Machine.execSet_1_atHL s
  | .set_2_atHL => Sys2Proof.Machine.execSet_2_atHL s
  | .set_3_atHL => Sys2Proof.Machine.execSet_3_atHL s
  | .set_4_atHL => Sys2Proof.Machine.execSet_4_atHL s
  | .set_5_atHL => Sys2Proof.Machine.execSet_5_atHL s
  | .set_6_atHL => Sys2Proof.Machine.execSet_6_atHL s
  | .set_7_atHL => Sys2Proof.Machine.execSet_7_atHL s
  | .set_0_atIXd d => Sys2Proof.Machine.execSet_0_atIXd d s
  | .set_1_atIXd d => Sys2Proof.Machine.execSet_1_atIXd d s
  | .set_2_atIXd d => Sys2Proof.Machine.execSet_2_atIXd d s
  | .set_3_atIXd d => Sys2Proof.Machine.execSet_3_atIXd d s
  | .set_4_atIXd d => Sys2Proof.Machine.execSet_4_atIXd d s
  | .set_5_atIXd d => Sys2Proof.Machine.execSet_5_atIXd d s
  | .set_6_atIXd d => Sys2Proof.Machine.execSet_6_atIXd d s
  | .set_7_atIXd d => Sys2Proof.Machine.execSet_7_atIXd d s
  | .set_0_atIYd d => Sys2Proof.Machine.execSet_0_atIYd d s
  | .set_1_atIYd d => Sys2Proof.Machine.execSet_1_atIYd d s
  | .set_2_atIYd d => Sys2Proof.Machine.execSet_2_atIYd d s
  | .set_3_atIYd d => Sys2Proof.Machine.execSet_3_atIYd d s
  | .set_4_atIYd d => Sys2Proof.Machine.execSet_4_atIYd d s
  | .set_5_atIYd d => Sys2Proof.Machine.execSet_5_atIYd d s
  | .set_6_atIYd d => Sys2Proof.Machine.execSet_6_atIYd d s
  | .set_7_atIYd d => Sys2Proof.Machine.execSet_7_atIYd d s
  -- Jumps, calls and returns (47_control.md)
  | .jp_mn mn => Sys2Proof.Machine.execJp_mn mn s
  | .jp_NZ_mn mn => Sys2Proof.Machine.execJp_NZ_mn mn s
  | .jp_Z_mn mn => Sys2Proof.Machine.execJp_Z_mn mn s
  | .jp_NC_mn mn => Sys2Proof.Machine.execJp_NC_mn mn s
  | .jp_C_mn mn => Sys2Proof.Machine.execJp_C_mn mn s
  | .jp_LZ_mn mn => Sys2Proof.Machine.execJp_LZ_mn mn s
  | .jp_LO_mn mn => Sys2Proof.Machine.execJp_LO_mn mn s
  | .jp_P_mn mn => Sys2Proof.Machine.execJp_P_mn mn s
  | .jp_M_mn mn => Sys2Proof.Machine.execJp_M_mn mn s
  | .jp_atHL => Sys2Proof.Machine.execJp_atHL s
  | .jp_atIX => Sys2Proof.Machine.execJp_atIX s
  | .jp_atIY => Sys2Proof.Machine.execJp_atIY s
  | .jr_e k => Sys2Proof.Machine.execJr_e k s
  | .jr_NZ_e k => Sys2Proof.Machine.execJr_NZ_e k s
  | .jr_Z_e k => Sys2Proof.Machine.execJr_Z_e k s
  | .jr_NC_e k => Sys2Proof.Machine.execJr_NC_e k s
  | .jr_C_e k => Sys2Proof.Machine.execJr_C_e k s
  | .djnz_e k => Sys2Proof.Machine.execDjnz_e k s
  | .call_mn mn => Sys2Proof.Machine.execCall_mn mn s
  | .ret => Sys2Proof.Machine.execRet s
  | .ret_NZ => Sys2Proof.Machine.execRet_NZ s
  | .ret_Z => Sys2Proof.Machine.execRet_Z s
  | .ret_NC => Sys2Proof.Machine.execRet_NC s
  | .ret_C => Sys2Proof.Machine.execRet_C s
  | .ret_LZ => Sys2Proof.Machine.execRet_LZ s
  | .ret_LO => Sys2Proof.Machine.execRet_LO s
  | .ret_P => Sys2Proof.Machine.execRet_P s
  | .ret_M => Sys2Proof.Machine.execRet_M s
  | .lcall_x_mn mn x => Sys2Proof.Machine.execLcall_x_mn mn x s
  | .ljp_x_mn mn x => Sys2Proof.Machine.execLjp_x_mn mn x s
  | .lret => Sys2Proof.Machine.execLret s
  | .rst_10 => Sys2Proof.Machine.execRst_10 s
  | .rst_18 => Sys2Proof.Machine.execRst_18 s
  | .rst_20 => Sys2Proof.Machine.execRst_20 s
  | .rst_28 => Sys2Proof.Machine.execRst_28 s
  | .rst_38 => Sys2Proof.Machine.execRst_38 s
  -- Block moves, UMA and UMS (48_block.md)
  | .ldi => Sys2Proof.Machine.execLdi s
  | .ldd => Sys2Proof.Machine.execLdd s
  | .ldir => Sys2Proof.Machine.execLdir s
  | .lddr => Sys2Proof.Machine.execLddr s
  | .ldisr => Sys2Proof.Machine.execLdisr s
  | .lddsr => Sys2Proof.Machine.execLddsr s
  | .lsir => Sys2Proof.Machine.execLsir s
  | .lsdr => Sys2Proof.Machine.execLsdr s
  | .lsidr => Sys2Proof.Machine.execLsidr s
  | .lsddr => Sys2Proof.Machine.execLsddr s
  | .uma => Sys2Proof.Machine.execUma s
  | .ums => Sys2Proof.Machine.execUms s
  -- NOP, prefix bytes, priority and mode (49_prefix_system.md)
  | .nop => Sys2Proof.Machine.execNop s
  | .altd => Sys2Proof.Machine.execAltd s
  | .ioi => Sys2Proof.Machine.execIoi s
  | .ioe => Sys2Proof.Machine.execIoe s
  | .ipset_0 => Sys2Proof.Machine.execIpset_0 s
  | .ipset_1 => Sys2Proof.Machine.execIpset_1 s
  | .ipset_2 => Sys2Proof.Machine.execIpset_2 s
  | .ipset_3 => Sys2Proof.Machine.execIpset_3 s
  | .ipres => Sys2Proof.Machine.execIpres s
  | .reti => Sys2Proof.Machine.execReti s
  | .idet => Sys2Proof.Machine.execIdet s
  | .rdmode => Sys2Proof.Machine.execRdmode s
  | .setusr => Sys2Proof.Machine.execSetusr s
  | .sures => Sys2Proof.Machine.execSures s
  | .syscall => Sys2Proof.Machine.execSyscall s

end Sys2Proof.Machine
end

