-- ==== Sys2Proof/Machine/Issue.lean ====
section
/-! DEFINITION. What one step does with PC and the prefix bytes: fetching, the checks before an instruction, running the
prefix bytes and their instruction as one, and the requests of a boundary (00_scope.md R22; 30_encoding.md R127,
R140-R142; 60_exceptions.md R626, R631, R645; 70_reset_and_hazards.md R690). -/

namespace Sys2Proof

/-- The platforms' predicates UserModeRestriction, unconstrained: which instructions request the System Mode Violation in
which states is not in the source (60_exceptions.md R645, D23). DESIGN CHOICE, safe: log 22. -/
opaque Config.userModeRestriction : Nat → Instr → Machine.State → Bool

/-- The prefix bytes 76, D3 and DB (30_encoding.md R128). -/
def Instr.isPrefix (i : Instr) : Bool :=
  match encode i with
  | [b] => b == 0x76 || b == 0xD3 || b == 0xDB
  | _ => false

/-- The opcodes of the twelve one-byte (HL) instructions of the Rabbit 2000 defect (70_reset_and_hazards.md R690). -/
def oneByteHL : List Byte :=
  [0x8E, 0x86, 0xA6, 0xBE, 0xB6, 0x9E, 0x96, 0xAE, 0x34, 0x35,
   0x46, 0x4E, 0x56, 0x5E, 0x66, 0x6E, 0x7E, 0x70, 0x71, 0x72, 0x73, 0x74, 0x75, 0x77]

/-- One of the twelve. -/
def Instr.isOneByteHL (i : Instr) : Bool :=
  match encode i with
  | [b] => oneByteHL.contains b
  | _ => false

/-- The bytes a decode error names (30_encoding.md R135). -/
def DecodeError.bytes : DecodeError → List Byte
  | .undefinedOpcode bs => bs
  | .truncated => []

end Sys2Proof

namespace Sys2Proof.Machine

/-- The four bytes at PC, the longest an instruction can be (`Fetch` of R13; 30_encoding.md R120, 20_memory.md R98). -/
def State.fetchBytes (s : State) : List Byte :=
  [s.memRead8 s.pc, s.memRead8 (s.pc + 1), s.memRead8 (s.pc + 2), s.memRead8 (s.pc + 3)]

/-- PC moves past `n` bytes (10_state.md R42). -/
def State.advance (s : State) (n : Nat) : State := { s with pc := s.pc + BitVec.ofNat 16 n }

/-- The Rabbit 2000 defect applies: the instruction before carried an I/O prefix, this one has no prefix and is one of
the twelve (70_reset_and_hazards.md R690; log 16). -/
def State.hitsIoBug (s : State) (i : Instr) : Bool :=
  s.variant == .r2000 && s.lastHadIoPrefix && !s.ctx.altd && s.ctx.iop == none && i.isOneByteHL

/-- The parameter UserModeRestriction: a predicate on the instruction and the state it is executed in, with the prefix
context set and PC at its opcode (60_exceptions.md R645, D23; log 22). -/
abbrev UserModeRestriction := Instr → State → Bool

/-- The restriction of the platform that `s` names: none, the spec's default, or an unknown predicate (60_exceptions.md
R645; log 22). -/
def State.restriction (s : State) : UserModeRestriction :=
  match s.userRestriction with
  | none => fun _ _ => false
  | some k => Config.userModeRestriction k

/-- The restriction holds for this instruction now, on a chip that has the System Mode Violation (60_exceptions.md R645;
00_scope.md R3). -/
def State.isRestricted (s : State) (restricted : UserModeRestriction) (i : Instr) : Bool :=
  s.variant.has3000A && restricted i s

/-- Where the restriction holds it requests the System Mode Violation; the instruction then executes normally
(60_exceptions.md R645, D23). -/
def State.markRestricted (s : State) (holds : Bool) : State := { s with smvPending := s.smvPending || holds }

/-- The beginning of an instruction: the deferral of interrupts ends (60_exceptions.md R626), no prefix yet, and this is
the first byte (48_block.md R540). -/
def State.beginInstr (s : State) : State :=
  { s with deferIrq := false, ctx := { altd := false, iop := none, first := s.pc } }

/-- The end of an instruction: the prefix context is consumed (00_scope.md R11); whether it had an I/O prefix is kept
(70_reset_and_hazards.md R690). -/
def State.endInstr (hadIo : Bool) (t : State) : State :=
  { t with ctx := PrefixCtx.idle, lastHadIoPrefix := hadIo }

/-- The instruction proper, with PC behind it: the Rabbit 2000 check, the user-mode restriction, its meaning. -/
def runInstr (restricted : UserModeRestriction) (i : Instr) (s : State) : Exec :=
  if s.hitsIoBug i then .refused .r2000IOPrefixBug
  else
    match exec i ((s.advance i.size).markRestricted (s.isRestricted restricted i)) with
    | .next t => .next (t.endInstr s.ctx.iop.isSome)
    | .fault f => .fault f
    | .refused r => .refused r

/-- The prefix bytes at PC, then the instruction (30_encoding.md R127). At most two prefix bytes succeed: a third is a
second one of its kind, which `exec` refuses, so two is enough fuel. -/
def runUnit (restricted : UserModeRestriction) : Nat → State → Exec
  | n, s =>
    match decode s.variant s.fetchBytes with
    | .error e => .refused (.undefinedOpcode e.bytes)
    | .ok (i, _) =>
      if i.isPrefix then
        match n with
        | 0 => exec i (s.advance i.size)
        | m + 1 =>
          match exec i (s.advance i.size) with
          | .next t => runUnit restricted m t
          | .fault f => .fault f
          | .refused r => .refused r
      else runInstr restricted i s

/-- The requests the environment presents at this boundary (60_exceptions.md R630; log 18). -/
def State.presented (s : State) : List IntRequest := s.irqs.headD []

/-- The next boundary's requests come to the front. -/
def State.nextBoundary (s : State) : State := { s with irqs := s.irqs.tail }

/-- One step of the machine on a platform that supplies UserModeRestriction and InterruptEntry: take an interrupt if
one is accepted, else run the instruction at PC (00_scope.md R22; 70_reset_and_hazards.md R708). -/
def State.runWith (restricted : UserModeRestriction) (enter : EntrySequence) (s : State) : Exec :=
  match s.accepted s.presented with
  | some r => .next (s.nextBoundary.takeInterruptBy enter r.1 r.2)
  | none => runUnit restricted 2 s.nextBoundary.beginInstr

/-- One step with the restriction `s` names and the default InterruptEntry (logs 19, 22). -/
def State.run (s : State) : Exec := s.runWith s.restriction enterInterrupt

/-- Store bytes at increasing logical addresses. -/
def State.putBytes (s : State) (a : Word) : List Byte → State
  | [] => s
  | b :: t => (s.memWrite8 a b).putBytes (a + 1) t

/-- Place a table word where the next step fetches, with no interrupt taken before it (log 30). -/
def State.placeWord (s : State) (nbits w : Nat) : State :=
  { s.putBytes s.pc (tableBytes nbits w) with deferIrq := true }

end Sys2Proof.Machine
end

