-- ==== Sys2Proof/Machine/Step.lean ====
section
/-! DEFINITION. The step of the machine, and how a word is placed where it fetches. -/

namespace Sys2Proof.Machine

/-- One step (00_scope.md R22): an interrupt entry, or one instruction with its prefix bytes, or one iteration of a
repeating block instruction. -/
def step (s : State) : Host.Outcome State Fault Refusal := s.run

/-- The state with a table word at PC, so that the very next step runs it (log 30). -/
def State.withFetchWord (s : State) (nbits w : Nat) : State := s.placeWord nbits w

end Sys2Proof.Machine
end

