-- ==== Sys2Proof/Safety.lean ====
section
/-! DEFINITION. The terms statements about the machine use: what an access and an instruction may change, the invariant
of a run, and the classes of instructions the spec's rules name. -/

namespace Sys2Proof

/-! ## Instruction classes, by their bytes -/

/-- The privileged instructions (60_exceptions.md R625): LD SP,HL; LD SP,IX; LD SP,IY; BIT b,(HL); IPSET 0 to 3; IPRES;
RETI; POP IP; LD XPC,A; LD A,XPC; PUSH SU; POP SU; SETUSR; SURES; RDMODE. -/
def privilegedCodes : List (List Byte) :=
  [[0xF9], [0xDD, 0xF9], [0xFD, 0xF9],
   [0xCB, 0x46], [0xCB, 0x4E], [0xCB, 0x56], [0xCB, 0x5E], [0xCB, 0x66], [0xCB, 0x6E], [0xCB, 0x76], [0xCB, 0x7E],
   [0xED, 0x46], [0xED, 0x56], [0xED, 0x4E], [0xED, 0x5E], [0xED, 0x5D], [0xED, 0x4D], [0xED, 0x7E],
   [0xED, 0x67], [0xED, 0x77], [0xED, 0x66], [0xED, 0x6E], [0xED, 0x6F], [0xED, 0x7D], [0xED, 0x7F]]

/-- The instructions that write IP (10_state.md R44): IPSET 0 to 3, IPRES, POP IP, RETI. -/
def ipWriterCodes : List (List Byte) :=
  [[0xED, 0x46], [0xED, 0x56], [0xED, 0x4E], [0xED, 0x5E], [0xED, 0x5D], [0xED, 0x7E], [0xED, 0x4D]]

/-- The instructions that write SU (10_state.md R45): SETUSR, SURES, POP SU. -/
def suWriterCodes : List (List Byte) := [[0xED, 0x6F], [0xED, 0x7D], [0xED, 0x6E]]

/-- A privileged instruction. -/
def Instr.isPrivileged (i : Instr) : Bool := privilegedCodes.contains (encode i)

/-- An instruction that writes IP. -/
def Instr.writesIP (i : Instr) : Bool := ipWriterCodes.contains (encode i)

/-- An instruction that writes SU. -/
def Instr.writesSU (i : Instr) : Bool := suWriterCodes.contains (encode i)

/-- An instruction that writes XPC (10_state.md R43): LD XPC,A; LRET; LCALL and LJP, by their first byte. -/
def Instr.writesXPC (i : Instr) : Bool :=
  [[0xED, 0x67], [0xED, 0x45]].contains (encode i) || [[0xCF], [0xC7]].contains ((encode i).take 1)

/-- The instructions that change the alternate bank without ALTD (10_state.md R33): LD dd',BC; LD dd',DE; EX AF,AF';
EXX; EX DE',HL; UMA; UMS. -/
def altWriterCodes : List (List Byte) :=
  [[0xED, 0x49], [0xED, 0x59], [0xED, 0x69], [0xED, 0x41], [0xED, 0x51], [0xED, 0x61], [0x08], [0xD9], [0xE3],
   [0xED, 0xC0], [0xED, 0xC8]]

/-- The instructions that change the main bank under ALTD: those without an ALTD mark for what they write there (EX
AF,AF'; EXX; MUL; LDP HL,(HL), (IX), (IY); the block moves; UMA; UMS; RDMODE), and EX DE,HL. -/
def mainWriterCodes : List (List Byte) :=
  [[0x08], [0xD9], [0xEB], [0xF7], [0xED, 0x6C], [0xDD, 0x6C], [0xFD, 0x6C],
   [0xED, 0xA0], [0xED, 0xA8], [0xED, 0xB0], [0xED, 0xB8], [0xED, 0x90], [0xED, 0x98],
   [0xED, 0xF0], [0xED, 0xF8], [0xED, 0xD0], [0xED, 0xD8], [0xED, 0xC0], [0xED, 0xC8], [0xED, 0x7F]]

/-- An instruction that changes the alternate bank without ALTD. -/
def Instr.writesAlt (i : Instr) : Bool := altWriterCodes.contains (encode i)

/-- An instruction that changes the main bank under ALTD; LDP HL,(mn) is known by its first two bytes. -/
def Instr.writesMain (i : Instr) : Bool :=
  mainWriterCodes.contains (encode i) || (encode i).take 2 == [0xED, 0x6D]

/-- The prefix context after one more prefix byte (00_scope.md R11). -/
def Instr.prefixContext (i : Instr) (c : Machine.PrefixCtx) : Machine.PrefixCtx :=
  match i with
  | .altd => { c with altd := true }
  | .ioi => { c with iop := some .internal }
  | .ioe => { c with iop := some .external }
  | _ => c

end Sys2Proof

namespace Sys2Proof.Machine

/-! ## What an access does -/

/-- Every byte of physical memory reads as before. -/
def SameMem (s t : State) : Prop := ∀ pa : PhysAddr, t.physRead pa = s.physRead pa

/-- Every byte of physical memory outside the listed addresses reads as before. -/
def SameMemOutside (stored : List PhysAddr) (s t : State) : Prop :=
  ∀ pa : PhysAddr, pa ∉ stored → t.physRead pa = s.physRead pa

/-- The I/O address of an access: the low byte under IOI, all 16 bits under IOE (20_memory.md R101, R102). -/
def ioTarget (sp : IoSpace) (a : Word) : Word :=
  match sp with
  | .internal => a &&& 0x00FF
  | .external => a

/-- A data read of the byte at `a` answers `v` and leaves `u` (20_memory.md R100-R102): memory without an I/O prefix,
else one access to the prefix's space, on record. -/
def ReadsByte (s u : State) (a : Word) (v : Byte) : Prop :=
  match s.ctx.iop with
  | none => v = s.memRead8 a ∧ u = s
  | some sp => v = Config.ioRead s.io sp (ioTarget sp a) ∧ u = { s with io := s.io ++ [.read sp (ioTarget sp a) v] }

/-- The byte at logical address `a` is stored in memory (20_memory.md R84), and no other. -/
structure StoresMemByte (s t : State) (a : Word) (v : Byte) : Prop where
  byte : t.physRead (s.translate a) = v
  rest : t = { s with mem := t.mem }
  mem : SameMemOutside [s.translate a] s t

/-- A data write of `v` to the byte at `a` leads from `s` to `t` (20_memory.md R100-R103): that byte of memory and no
other without an I/O prefix; else one access to the prefix's space, on record, or nothing while external writes are
inhibited. An internal write reaches a platform register only if the platform has put one at that address. -/
def StoresByte (s t : State) (a : Word) (v : Byte) : Prop :=
  match s.ctx.iop with
  | none => StoresMemByte s t a v
  | some .internal =>
    t = { s with
      io := s.io ++ [.write .internal (a &&& 0x00FF) v]
      platform := match s.platform.ports.lookup (loByte a) with
        | none => s.platform
        | some r => s.platform.writeReg r v }
  | some .external =>
    if s.platform.extWriteInhibit then t = s
    else t = { s with io := s.io ++ [.write .external a v] }

/-- The mapping keeps two addresses apart. The default of 20_memory.md R96 does so for the addresses this is said of (log
5); a platform's mapping may send both to one byte. -/
def State.apart (s : State) (a b : Word) : Prop := s.translation = none ∨ s.translate a ≠ s.translate b

/-- Two bytes of logical memory stored, low byte at `a`, then high byte at `a + 1` (20_memory.md R81, R85), no other. The
low byte stays where the mapping keeps the two apart. -/
structure StoresMemWord (s t : State) (a : Word) (v : Word) : Prop where
  low : s.apart a (a + 1) → t.physRead (s.translate a) = v.setWidth 8
  high : t.physRead (s.translate (a + 1)) = (v >>> 8).setWidth 8
  rest : t = { s with mem := t.mem }
  mem : SameMemOutside [s.translate a, s.translate (a + 1)] s t

/-- A data read of two bytes, the one at `a` first and less significant (20_memory.md R81, R85, R101). -/
def ReadsWord (s u : State) (a v : Word) : Prop :=
  ∃ lo hi m, ReadsByte s m a lo ∧ ReadsByte m u (a + 1) hi ∧ v.toNat = lo.toNat + 256 * hi.toNat

/-- A data write of two bytes, the less significant one at `a` first (20_memory.md R81, R85, R101). -/
def StoresWord (s t : State) (a v : Word) : Prop :=
  ∃ m, StoresByte s m a (v.setWidth 8) ∧ StoresByte m t (a + 1) ((v >>> 8).setWidth 8)

/-- Two bytes on the stack, the high one at SP-1, then the low one at SP-2, no other byte stored, SP down by 2
(20_memory.md R86). The high byte stays where the mapping keeps the two apart. -/
structure PushedWord (s t : State) (v : Word) : Prop where
  high : s.apart (s.sp - 1) (s.sp - 2) → t.physRead (s.translate (s.sp - 1)) = (v >>> 8).setWidth 8
  low : t.physRead (s.translate (s.sp - 2)) = v.setWidth 8
  sp : t.sp = s.sp - 2
  mem : SameMemOutside [s.translate (s.sp - 1), s.translate (s.sp - 2)] s t

/-- The physical address of an LDP: `{A[3:0], a}` (20_memory.md R92). -/
def State.ldpAddr (s : State) (a : Word) : PhysAddr := ((s.main.a &&& 0x0F).setWidth 20 <<< 16) ||| a.setWidth 20

/-- The word LDP stores or loads at `a`: low byte at `{A[3:0], a}`, high byte at `{A[3:0], a + 1}` (R93). -/
def State.ldpWord (s : State) (a : Word) : Nat :=
  (s.physRead (s.ldpAddr a)).toNat + 256 * (s.physRead (s.ldpAddr (a + 1))).toNat

/-- A word as a number: the byte at `a` and 256 times the byte at `a + 1` (20_memory.md R81, R85). -/
def State.wordAt (s : State) (a : Word) : Nat := (s.memRead8 a).toNat + 256 * (s.memRead8 (a + 1)).toNat

/-! ## What an instruction may change -/

/-- The bank destinations go to: the alternate one under ALTD (00_scope.md R12). -/
def State.destBank (s : State) (altd : Bool) : Bank := if altd then s.alt else s.main

/-- The other bank. -/
def State.otherBank (s : State) (altd : Bool) : Bank := if altd then s.main else s.alt

/-- The registers `rs` of the destination bank are written, no flag; nothing else changes. -/
structure WritesRegs (rs : List Reg8) (s t : State) : Prop where
  rest : t = { s with main := t.main, alt := t.alt }
  mem : SameMem s t
  other : t.otherBank s.ctx.altd = s.otherBank s.ctx.altd
  regs : ∀ q, q ∉ rs → (t.destBank s.ctx.altd).get q = (s.destBank s.ctx.altd).get q
  flags : (t.destBank s.ctx.altd).f = (s.destBank s.ctx.altd).f

/-- The registers `rs` and flags of the destination bank are written; nothing else changes. -/
structure WritesRegsFlags (rs : List Reg8) (s t : State) : Prop where
  rest : t = { s with main := t.main, alt := t.alt, draws := t.draws }
  mem : SameMem s t
  other : t.otherBank s.ctx.altd = s.otherBank s.ctx.altd
  regs : ∀ q, q ∉ rs → (t.destBank s.ctx.altd).get q = (s.destBank s.ctx.altd).get q

/-- The index register `x` is written; nothing else changes. -/
structure WritesIdx (x : Idx) (s t : State) : Prop where
  rest : t = { s with ix := t.ix, iy := t.iy }
  mem : SameMem s t
  idx : ∀ y, y ≠ x → t.idx y = s.idx y

/-- The index register `x` and flags of the destination bank are written; nothing else changes. -/
structure WritesIdxFlags (x : Idx) (s t : State) : Prop where
  rest : t = { s with ix := t.ix, iy := t.iy, main := t.main, alt := t.alt, draws := t.draws }
  mem : SameMem s t
  idx : ∀ y, y ≠ x → t.idx y = s.idx y
  other : t.otherBank s.ctx.altd = s.otherBank s.ctx.altd
  regs : ∀ q, (t.destBank s.ctx.altd).get q = (s.destBank s.ctx.altd).get q

/-- The flags of the destination bank. -/
def State.destFlags (t : State) (altd : Bool) : Flags := (t.destBank altd).f

/-- S, Z, L/V and C are set exactly under these conditions. -/
structure FlagsAre (f : Flags) (s z lv c : Prop) : Prop where
  s : f.s = true ↔ s
  z : f.z = true ↔ z
  lv : f.lv = true ↔ lv
  c : f.c = true ↔ c

/-- S, Z and L/V are the same: a flag write of C alone. -/
structure FlagsKept (f g : Flags) : Prop where
  s : f.s = g.s
  z : f.z = g.z
  lv : f.lv = g.lv

/-- The flags of an 8-bit sum `a + x + c` (43_alu8.md R340). -/
def SumFlags8 (f : Flags) (a x : Byte) (c : Bool) : Prop :=
  FlagsAre f (128 ≤ (a.toNat + x.toNat + c.toNat) % 256) ((a.toNat + x.toNat + c.toNat) % 256 = 0)
    (a.toInt + x.toInt + c.toInt < -128 ∨ 127 < a.toInt + x.toInt + c.toInt) (255 < a.toNat + x.toNat + c.toNat)

/-- The difference `a - x - c` modulo 256. -/
def diff8 (a x : Byte) (c : Bool) : Nat := (256 + a.toNat - x.toNat - c.toNat) % 256

/-- The flags of an 8-bit difference `a - x - c` (43_alu8.md R341). -/
def DiffFlags8 (f : Flags) (a x : Byte) (c : Bool) : Prop :=
  FlagsAre f (128 ≤ diff8 a x c) (diff8 a x c = 0)
    (a.toInt - x.toInt - c.toInt < -128 ∨ 127 < a.toInt - x.toInt - c.toInt) (a.toNat < x.toNat + c.toNat)

/-- S, Z and the logical check of an 8-bit result, and C (43_alu8.md R342, 45_rotate_shift.md R440). -/
def LogicFlags8 (f : Flags) (r : Byte) (c : Prop) : Prop :=
  FlagsAre f (128 ≤ r.toNat) (r.toNat = 0) (16 ≤ r.toNat) c

/-- S, Z and the logical check of a 16-bit result, and C (44_alu16.md R400, 45_rotate_shift.md R440). -/
def LogicFlags16 (f : Flags) (r : Word) (c : Prop) : Prop :=
  FlagsAre f (32768 ≤ r.toNat) (r.toNat = 0) (4096 ≤ r.toNat) c

/-- A rotate or shift of one byte as arithmetic: the result and the bit shifted out (45_rotate_shift.md R445-R472). -/
def Rotated (op : RotOp) (x r : Byte) (cin cout : Bool) : Prop :=
  match op with
  | .rlc => r.toNat = 2 * x.toNat % 256 + x.toNat / 128 ∧ (cout = true ↔ 128 ≤ x.toNat)
  | .rl => r.toNat = 2 * x.toNat % 256 + cin.toNat ∧ (cout = true ↔ 128 ≤ x.toNat)
  | .sla => r.toNat = 2 * x.toNat % 256 ∧ (cout = true ↔ 128 ≤ x.toNat)
  | .rrc => r.toNat = x.toNat / 2 + 128 * (x.toNat % 2) ∧ (cout = true ↔ x.toNat % 2 = 1)
  | .rr => r.toNat = x.toNat / 2 + 128 * cin.toNat ∧ (cout = true ↔ x.toNat % 2 = 1)
  | .sra => r.toInt = x.toInt / 2 ∧ (cout = true ↔ x.toNat % 2 = 1)
  | .srl => r.toNat = x.toNat / 2 ∧ (cout = true ↔ x.toNat % 2 = 1)

/-! ## Instructions of one shape -/

/-- Instruction `i` answers a next state in which register `r` of the destination bank is the byte read at `a`. -/
def LoadsByte (i : Instr) (r : Reg8) (a : Word) (s : State) : Prop :=
  ∃ v u t, exec i s = .next t ∧ ReadsByte s u a v ∧ (t.destBank s.ctx.altd).get r = v ∧ WritesRegs [r] u t

/-- Instruction `i` answers a next state in which the byte at `a` is `v` and nothing else has changed. -/
def StoresOnly (i : Instr) (a : Word) (v : Byte) (s : State) : Prop :=
  ∃ t, exec i s = .next t ∧ StoresByte s t a v

/-- Instruction `i` answers a next state in which the word at `a` is `v` and nothing else has changed. -/
def StoresOnlyWord (i : Instr) (a v : Word) (s : State) : Prop :=
  ∃ t, exec i s = .next t ∧ StoresWord s t a v

/-- Instruction `i` runs on the byte `x` read at `a`, the reading leaving `u`, to the next state `t`. -/
def RunsOn (i : Instr) (a : Word) (s : State) (P : Byte → State → State → Prop) : Prop :=
  ∃ x u t, exec i s = .next t ∧ ReadsByte s u a x ∧ P x u t

/-- The four operand forms of an 8-bit operation: register, constant, (HL), (IX+d) or (IY+d). -/
def AluForms (op : AluOp) (s : State) (P : Byte → State → State → Prop) : Prop :=
  (∀ r, ∃ t, exec (Form.aluR op r) s = .next t ∧ P (s.main.get r) s t) ∧
  (∀ n, ∃ t, exec (Form.aluN op n) s = .next t ∧ P n s t) ∧
  RunsOn (Form.aluAtHL op) s.hl s P ∧
  ∀ x d, RunsOn (Form.aluAtIdx op x d) (s.idx x + d.signExtend 16) s P

/-- A byte at `a` is read, and `f` of it stored there, flags written: read `x`, store `y`, nothing else but the flags
of the destination bank. -/
def Modifies (i : Instr) (a : Word) (s : State) (P : Byte → Byte → State → Prop) : Prop :=
  ∃ x y u m t, exec i s = .next t ∧ ReadsByte s u a x ∧ StoresByte u m a y ∧ WritesRegsFlags [] m t ∧ P x y t

/-- The registers of a pair. -/
def Pair.regs : Pair → List Reg8
  | .bc => [.b, .c]
  | .de => [.d, .e]
  | .hl => [.h, .l]

/-- The field code of a pair among the word registers. -/
def Pair.dd : Pair → Dd
  | .bc => .bc | .de => .de | .hl => .hl

/-- The field code of a pair among the pushed registers. -/
def Pair.zz : Pair → Zz
  | .bc => .bc | .de => .de | .hl => .hl

/-! ## Steps -/

/-- No interrupt is accepted at this boundary. -/
def State.noInterrupt (s : State) : Prop := s.accepted s.presented = none

/-- The machine at this boundary's instruction, behind `n` prefix bytes that made the context `c`. -/
def State.behind (s : State) (c : PrefixCtx) (n : Nat) : State :=
  { s with irqs := s.irqs.tail, deferIrq := false, ctx := c, pc := s.pc + BitVec.ofNat 16 n }

/-- What a step adds around `exec`: PC moves past the instruction before it, the platform's user-mode restriction may
request the System Mode Violation, the prefix context ends after it, and whether it had an I/O prefix is kept. -/
def stepAround (restricted : UserModeRestriction) (i : Instr) (s : State) : Exec :=
  match exec i { s with pc := s.pc + BitVec.ofNat 16 i.size,
                        smvPending := s.smvPending || s.isRestricted restricted i } with
  | .next t => .next { t with ctx := PrefixCtx.idle, lastHadIoPrefix := s.ctx.iop.isSome }
  | .fault f => .fault f
  | .refused r => .refused r

/-! ## Runs -/

/-- The invariant of a run: memory is in its canonical form, inside the 2^20 bytes, and no prefix is pending between
instructions (10_state.md R50). -/
structure Inv (s : State) : Prop where
  mem : s.mem.wf
  ctx : s.ctx = PrefixCtx.idle

/-- The states a run passes. -/
inductive Reaches : State → State → Prop
  | refl (s : State) : Reaches s s
  | step {s t u : State} (first : step s = .next t) (later : Reaches t u) : Reaches s u

end Sys2Proof.Machine
end

