-- ==== Sys2Proof/Certificates/Slice0/Obligations.lean ====
section
/-! DEFINITION. The statements about the machine, for the provers. Each docstring names the rules it formalises; a
statement that rests on a choice of the model says so. -/

section

open Sys2Proof Sys2Proof.Machine

/-! ## Encoding and decoding -/

/-- DECODE AND ENCODE AGREE: on every chip, an instruction the chip has, written by the encoder and followed by any
bytes, is what the decoder reads (30_encoding.md R120-R136). Decision of the spec: D18 for what each chip has (log
15). -/
def Obligations.DecodeOfEncode : Prop :=
  ∀ (v : Variant) (i : Instr) (rest : List Byte), i.existsOn v = true → decode v (encode i ++ rest) = .ok (i, rest)

/-- The decoder accepts nothing else: bytes it reads as an instruction begin with that instruction's encoding, and the
chip has that instruction (30_encoding.md R120-R136, 00_scope.md R3). Decisions of the spec: D12, D18 (log 15). -/
def Obligations.EncodeOfDecode : Prop :=
  ∀ (v : Variant) (bs : List Byte) (i : Instr) (rest : List Byte),
    decode v bs = .ok (i, rest) → bs = encode i ++ rest ∧ i.existsOn v = true

/-- Words written out from the spec's encodings decode to the instructions they stand for (the Encoding line of each
rule cited). Decision of the spec: D18 for byte 5B (log 15). -/
def Obligations.SpecWordsDecode : Prop :=
  decode .r3000a [0x41] = .ok (.ld_B_C, []) ∧
  decode .r3000a [0xFD, 0x36, 0x05, 0x7F] = .ok (.ld_atIYd_n 0x05 0x7F, []) ∧
  decode .r3000a [0xED, 0x4B, 0x34, 0x12] = .ok (.ld_BC_atMn 0x1234, []) ∧
  decode .r3000a [0xC5] = .ok (.push_BC, []) ∧
  decode .r3000a [0xDD, 0x86, 0xFE] = .ok (.add_A_atIXd 0xFE, []) ∧
  decode .r3000a [0xED, 0x52] = .ok (.sbc_HL_DE, []) ∧
  decode .r3000a [0xCB, 0x3E] = .ok (.srl_atHL, []) ∧
  decode .r3000a [0xDD, 0xCB, 0x05, 0x66] = .ok (.bit_4_atIXd 0x05, []) ∧
  decode .r3000a [0xCF, 0x34, 0xE2, 0x09] = .ok (.lcall_x_mn 0xE234 0x09, []) ∧
  decode .r3000a [0xED, 0xC8] = .ok (.ums, []) ∧
  decode .r3000a [0xED, 0x5D] = .ok (.ipres, []) ∧
  decode .r3000a [0x5B] = .ok (.idet, []) ∧ decode .r2000 [0x5B] = .ok (.ld_E_E, []) ∧
  decode .r3000 [0x5B] = .ok (.ld_E_E, [])

/-! ## The step -/

/-- Bytes that are no instruction of the chip stop the machine and name themselves, at PC and behind prefix bytes
whatever the platform (30_encoding.md R127, R135). Decisions of the spec: D12, D18 (log 15), D1 for a prefix and what
follows it (log 11). -/
def Obligations.UndefinedBytesStop : Prop :=
  ∀ (restricted : UserModeRestriction) (enter : EntrySequence) (s : State), s.noInterrupt →
    (∀ e, decode s.variant s.fetchBytes = .error e →
      s.runWith restricted enter = .refused (.undefinedOpcode e.bytes) ∧ step s = .refused (.undefinedOpcode e.bytes)) ∧
    ∀ (p : Instr) (r : List Byte), decode s.variant s.fetchBytes = .ok (p, r) → p.isPrefix = true →
      (∀ e, decode s.variant (s.behind PrefixCtx.idle 1).fetchBytes = .error e →
        s.runWith restricted enter = .refused (.undefinedOpcode e.bytes) ∧
          step s = .refused (.undefinedOpcode e.bytes)) ∧
      ∀ (q : Instr) (r' : List Byte), decode s.variant (s.behind PrefixCtx.idle 1).fetchBytes = .ok (q, r') →
        (p = .altd ∧ q.isPrefix = true ∧ q ≠ .altd ∨ p ≠ .altd ∧ q = .altd) →
        ∀ e, decode s.variant (s.behind PrefixCtx.idle 2).fetchBytes = .error e →
          s.runWith restricted enter = .refused (.undefinedOpcode e.bytes) ∧
            step s = .refused (.undefinedOpcode e.bytes)

/-- A STEP RUNS THE DECODED INSTRUCTION: where no interrupt is accepted and the bytes at PC are an instruction that is
no prefix byte, the step is `exec` of it, with PC past it, the deferral of interrupts ended, a System Mode Violation
requested where the platform's restriction holds, and the prefix context idle again afterwards (00_scope.md R14, R22;
60_exceptions.md R626, R645; 70_reset_and_hazards.md R690, R708). So on every platform, and `step` is the case of the
restriction the state names, which is never for a state that names none. Decisions of the spec: D31 for the end of the
deferral (log 20), D23 for the restriction (log 22), D33 for the defect left out here (log 16). -/
def Obligations.StepRunsDecodedInstruction : Prop :=
  ∀ (restricted : UserModeRestriction) (enter : EntrySequence) (s : State) (i : Instr) (rest : List Byte),
    s.noInterrupt → decode s.variant s.fetchBytes = .ok (i, rest) →
    i.isPrefix = false → (s.behind ⟨false, none, s.pc⟩ 0).hitsIoBug i = false →
    s.runWith restricted enter = stepAround restricted i (s.behind ⟨false, none, s.pc⟩ 0) ∧
    step s = stepAround s.restriction i (s.behind ⟨false, none, s.pc⟩ 0) ∧
    (s.userRestriction = none → ∀ j t, s.restriction j t = false)

/-- A step runs a prefix byte, or ALTD and an I/O prefix in either order, and the instruction behind as one, with PC
past all of it and the prefix context in force, on every platform (30_encoding.md R127, R140, R141, R142; 00_scope.md
R11; 60_exceptions.md R645). A second ALTD or a second I/O prefix among the first three bytes stops it. Decisions of
the spec: D1 for prefix and instruction as one step (log 11), D2 for two prefixes and for the stops (log 13), D23 (log
22), D31 (log 20). -/
def Obligations.StepRunsPrefixedInstruction : Prop :=
  ∀ (restricted : UserModeRestriction) (enter : EntrySequence) (s : State) (p i : Instr) (r r' : List Byte),
    s.noInterrupt → decode s.variant s.fetchBytes = .ok (p, r) → p.isPrefix = true →
    decode s.variant (s.behind PrefixCtx.idle 1).fetchBytes = .ok (i, r') →
    (i.isPrefix = false →
      s.runWith restricted enter = stepAround restricted i (s.behind (p.prefixContext ⟨false, none, s.pc⟩) 1) ∧
      step s = stepAround s.restriction i (s.behind (p.prefixContext ⟨false, none, s.pc⟩) 1)) ∧
    (p = .altd ∧ i = .altd →
      s.runWith restricted enter = .refused .doubleALTD ∧ step s = .refused .doubleALTD) ∧
    (p ≠ .altd ∧ i.isPrefix = true ∧ i ≠ .altd →
      s.runWith restricted enter = .refused .doubleIOPrefix ∧ step s = .refused .doubleIOPrefix) ∧
    (p = .altd ∧ i.isPrefix = true ∧ i ≠ .altd ∨ p ≠ .altd ∧ i = .altd →
      ∀ (j : Instr) (r'' : List Byte), decode s.variant (s.behind PrefixCtx.idle 2).fetchBytes = .ok (j, r'') →
        (j.isPrefix = false →
          s.runWith restricted enter =
            stepAround restricted j (s.behind (i.prefixContext (p.prefixContext ⟨false, none, s.pc⟩)) 2) ∧
          step s = stepAround s.restriction j (s.behind (i.prefixContext (p.prefixContext ⟨false, none, s.pc⟩)) 2)) ∧
        (j = .altd → s.runWith restricted enter = .refused .doubleALTD ∧ step s = .refused .doubleALTD) ∧
        (j.isPrefix = true ∧ j ≠ .altd →
          s.runWith restricted enter = .refused .doubleIOPrefix ∧ step s = .refused .doubleIOPrefix))

/-- The three prefix bytes complete once each, and stop the machine when repeated, ALTD after ALTD, IOI or IOE after IOI
or IOE (30_encoding.md R127, R142; 49_prefix_system.md R571-R573; the spec's decision D2, log 13). ALTD on an instruction
whose marked destination is SP stops it too (30_encoding.md R144; the spec's decision D17, log 14). -/
def Obligations.PrefixBytesAndTheirStops : Prop :=
  ∀ s : State,
    (s.ctx.altd = false → exec .altd s = .next { s with ctx := ⟨true, s.ctx.iop, s.ctx.first⟩ }) ∧
    (s.ctx.altd = true → exec .altd s = .refused .doubleALTD) ∧
    (s.ctx.iop = none →
      exec .ioi s = .next { s with ctx := ⟨s.ctx.altd, some .internal, s.ctx.first⟩ } ∧
      exec .ioe s = .next { s with ctx := ⟨s.ctx.altd, some .external, s.ctx.first⟩ }) ∧
    (s.ctx.iop ≠ none → exec .ioi s = .refused .doubleIOPrefix ∧ exec .ioe s = .refused .doubleIOPrefix) ∧
    (s.ctx.altd = true → ∀ mn, exec (.ld_SP_mn mn) s = .refused .altdOnSP ∧
      exec (.ld_SP_atMn mn) s = .refused .altdOnSP ∧ exec .inc_SP s = .refused .altdOnSP ∧
      exec .dec_SP s = .refused .altdOnSP)

/-- On a Rabbit 2000 only, one of the twelve one-byte (HL) instructions, without a prefix, directly after an instruction
with an I/O prefix stops the machine (70_reset_and_hazards.md R690; the spec's decision D33, log 16). -/
def Obligations.Rabbit2000DefectStops : Prop :=
  ∀ (s : State) (i : Instr) (rest : List Byte), s.noInterrupt → decode s.variant s.fetchBytes = .ok (i, rest) →
    i.isPrefix = false → i.isOneByteHL = true → s.lastHadIoPrefix = true →
    (s.variant = .r2000 → step s = .refused .r2000IOPrefixBug) ∧
    (s.variant ≠ .r2000 → step s = stepAround s.restriction i (s.behind ⟨false, none, s.pc⟩ 0))

/-! ## Invariants -/

/-- EVERY STEP KEEPS THE INVARIANT: memory stays in its canonical form inside the 2^20 bytes, and no prefix is pending
between steps (20_memory.md R91; 10_state.md R50; 30_encoding.md R141). Decision of the spec: D1 for the prefix
context (log 11). -/
def Obligations.StepKeepsInvariant : Prop :=
  ∀ s t : State, Inv s → step s = .next t → Inv t

/-- The invariant holds at reset. Reset memory as the model has it: logs 3 and 11. -/
def Obligations.ResetMeetsInvariant : Prop := Inv State.reset

/-- A step changes none of the parameters the state holds: the chip, the mapping, the restriction of user mode, and, the
model's choices, the platform's places of registers in I/O space (DESIGN CHOICE, log 6), the System Mode Violation's
priority and vector (log 21) and the schedule of interrupt requests, which loses its first entry each step (log 18).
On a chip without the Rabbit 3000A's additions it does not change SU and requests no System Mode Violation (00_scope.md
R2, R3, R7; 10_state.md R45). Decisions of the spec: D18 (log 15), D23 for the violation (log 22), D9 for the mapping
(log 5), D13 for ports and schedule (logs 6, 18), D20 for the violation's request (log 21). -/
def Obligations.StepKeepsParameters : Prop :=
  ∀ s t : State, step s = .next t →
    t.variant = s.variant ∧ t.translation = s.translation ∧ t.smv = s.smv ∧ t.userRestriction = s.userRestriction ∧
    t.platform.ports = s.platform.ports ∧ t.irqs = s.irqs.tail ∧
    (s.variant ≠ .r3000a → t.su = s.su ∧ (s.smvPending = false → t.smvPending = false))

/-- Interrupts are deferred after an instruction exactly if it is privileged (60_exceptions.md R625, R626): executing
sets the deferral for the listed instructions and leaves it for every other. Decisions of the spec: D31 for the
mechanism, D36 for LD A,XPC and RDMODE being in the list and PUSH IP not (log 20). -/
def Obligations.PrivilegedInstructionsDefer : Prop :=
  ∀ (i : Instr) (s t : State), exec i s = .next t → t.deferIrq = (s.deferIrq || i.isPrivileged)

/-- Only the listed instructions write IP, SU, XPC, IIR and EIR (10_state.md R43-R46; 60_exceptions.md R623, R642). -/
def Obligations.SpecialRegisterWriters : Prop :=
  ∀ (i : Instr) (s t : State), exec i s = .next t →
    (i.writesIP = false → t.ip = s.ip) ∧ (i.writesSU = false → t.su = s.su) ∧ (i.writesXPC = false → t.xpc = s.xpc) ∧
    (i ≠ .ld_IIR_A → t.iir = s.iir) ∧ (i ≠ .ld_EIR_A → t.eir = s.eir)

/-- The two banks meet only where the spec says: without ALTD only the listed instructions change the alternate bank,
under ALTD only the listed ones change the main bank (10_state.md R33; 00_scope.md R12). Decisions of the spec: D3,
D21, which make the list of what still writes the main bank under ALTD (log 12). -/
def Obligations.BanksKeptApart : Prop :=
  ∀ (i : Instr) (s t : State), exec i s = .next t →
    (s.ctx.altd = false → i.writesAlt = false → t.alt = s.alt) ∧
    (s.ctx.altd = true → i.writesMain = false → t.main = s.main)

/-! ## The helper computations of the rules -/

/-- SUB8 and LOGIC8 (43_alu8.md R341, R342): the result modulo 256; S its bit 7; Z; V by the operands' and the result's
signs, which is the signed difference being outside -128..127; C the borrow; the logical check one of the four most
significant bits being one. AND, XOR and OR have the result and flags of LOGIC8. ADD8 is a clause of Additions8. -/
def Obligations.Helpers8Compute : Prop :=
  (∀ (a b : Byte) (bin : Bool), ∃ s z v c, (sub8 a b bin).2 = { s := some s, z := some z, lv := some v, c := some c } ∧
    ((sub8 a b bin).1.toNat : Int) = ((a.toNat : Int) - b.toNat - bin.toNat) % 256 ∧
    s = (sub8 a b bin).1.getLsbD 7 ∧ (z = true ↔ (sub8 a b bin).1 = 0) ∧
    (v = true ↔ a.getLsbD 7 ≠ b.getLsbD 7 ∧ (sub8 a b bin).1.getLsbD 7 ≠ a.getLsbD 7) ∧
    (v = true ↔ a.toInt - b.toInt - bin.toInt < -128 ∨ 127 < a.toInt - b.toInt - bin.toInt) ∧
    (c = true ↔ (a.toNat : Int) - b.toNat - bin.toNat < 0)) ∧
  ∀ r : Byte, ∃ s z l, (logic8 r).2 = { s := some s, z := some z, lv := some l, c := some false } ∧ (logic8 r).1 = r ∧
    s = r.getLsbD 7 ∧ (z = true ↔ r = 0) ∧ (l = true ↔ ∃ k, 4 ≤ k ∧ k ≤ 7 ∧ r.getLsbD k = true) ∧
    ∀ (a x : Byte) (c : Bool), (r = a &&& x → alu8 .and a x c = logic8 r) ∧ (r = a ^^^ x → alu8 .xor a x c = logic8 r) ∧
      (r = a ||| x → alu8 .or a x c = logic8 r)

/-- ADD16, SUB16 and LOGIC16 (44_alu16.md R400). The spec derives R400 from R340 to R342; bits 15 to 12 for L are its
decision D40 (log 33). -/
def Obligations.Helpers16Compute : Prop :=
  (∀ (a b : Word) (cin : Bool), ∃ s z v c, (add16 a b cin).2 = { s := some s, z := some z, lv := some v, c := some c } ∧
    (add16 a b cin).1.toNat = (a.toNat + b.toNat + cin.toNat) % 65536 ∧ s = (add16 a b cin).1.getLsbD 15 ∧
    (z = true ↔ (add16 a b cin).1 = 0) ∧
    (v = true ↔ a.getLsbD 15 = b.getLsbD 15 ∧ (add16 a b cin).1.getLsbD 15 ≠ a.getLsbD 15) ∧
    (v = true ↔ a.toInt + b.toInt + cin.toInt < -32768 ∨ 32767 < a.toInt + b.toInt + cin.toInt) ∧
    (c = true ↔ 65535 < a.toNat + b.toNat + cin.toNat)) ∧
  (∀ (a b : Word) (bin : Bool), ∃ s z v c, (sub16 a b bin).2 = { s := some s, z := some z, lv := some v, c := some c } ∧
    ((sub16 a b bin).1.toNat : Int) = ((a.toNat : Int) - b.toNat - bin.toNat) % 65536 ∧
    s = (sub16 a b bin).1.getLsbD 15 ∧ (z = true ↔ (sub16 a b bin).1 = 0) ∧
    (v = true ↔ a.getLsbD 15 ≠ b.getLsbD 15 ∧ (sub16 a b bin).1.getLsbD 15 ≠ a.getLsbD 15) ∧
    (v = true ↔ a.toInt - b.toInt - bin.toInt < -32768 ∨ 32767 < a.toInt - b.toInt - bin.toInt) ∧
    (c = true ↔ (a.toNat : Int) - b.toNat - bin.toNat < 0)) ∧
  ∀ r : Word, ∃ s z l, logic16 r = { s := some s, z := some z, lv := some l, c := some false } ∧
    s = r.getLsbD 15 ∧ (z = true ↔ r = 0) ∧ (l = true ↔ ∃ k, 12 ≤ k ∧ k ≤ 15 ∧ r.getLsbD k = true)

/-- The conditions of fields f and cc read main F, with these codes (00_scope.md R15). -/
def Obligations.ConditionTable : Prop :=
  (∀ s : State,
    (s.cond .nz = true ↔ s.main.f.z = false) ∧ (s.cond .z = true ↔ s.main.f.z = true) ∧
    (s.cond .nc = true ↔ s.main.f.c = false) ∧ (s.cond .c = true ↔ s.main.f.c = true) ∧
    (s.cond .lz = true ↔ s.main.f.lv = false) ∧ (s.cond .lo = true ↔ s.main.f.lv = true) ∧
    (s.cond .p = true ↔ s.main.f.s = false) ∧ (s.cond .m = true ↔ s.main.f.s = true)) ∧
  [Cond.nz, .z, .nc, .c, .lz, .lo, .p, .m].map Cond.code = [0b000, 0b001, 0b010, 0b011, 0b100, 0b101, 0b110, 0b111] ∧
  [Cc.nz, .z, .nc, .c].map Cc.code = [0b00, 0b01, 0b10, 0b11] ∧
  [Cc.nz, .z, .nc, .c].map Cc.toCond = [.nz, .z, .nc, .c]

/-- The byte F: S bit 7, Z bit 6, L/V bit 2, C bit 0, and a byte goes through F unchanged (10_state.md R36; the
positions are the spec's from general knowledge, log 7). Decisions of the spec: D8 (log 7), D7 for the four other bits
(log 8). -/
def Obligations.FlagsByteLayout : Prop :=
  (∀ f : Flags, f.toByte.getLsbD 7 = f.s ∧ f.toByte.getLsbD 6 = f.z ∧ f.toByte.getLsbD 2 = f.lv ∧
    f.toByte.getLsbD 0 = f.c ∧ Flags.ofByte f.toByte = f) ∧
  ∀ b : Byte, (Flags.ofByte b).toByte = b

/-! ## Memory -/

/-- A mixed-width access sees plain bytes: after LD (mn),HL the byte at mn + 1 is H, and the byte at mn is L where the
mapping keeps the two apart (20_memory.md R83), read by LD A,(mn). The spec derives R83 from R81; at mn = FFFF its
decision D5 (log 25). That the default mapping keeps them apart rests on R96 (D9, PRESUMED: log 5). -/
def Obligations.WordStoreSeenAsBytes : Prop :=
  ∀ (s : State) (mn : Word), s.ctx = PrefixCtx.idle → ∃ t, exec (.ld_atMn_HL mn) s = .next t ∧
    (s.apart mn (mn + 1) → ∃ u, exec (.ld_A_atMn mn) t = .next u ∧ u.main.a = s.main.l) ∧
    ∃ u, exec (.ld_A_atMn (mn + 1)) t = .next u ∧ u.main.a = s.main.h

/-- The translation of a logical address is a parameter, which below E000 does not see XPC (00_scope.md R7; 20_memory.md
R95). By the default of R96, which a state that names no other mapping takes, the segment register of the address
range times 4096 is added, modulo 2^20, XPC from E000 on, so that addresses that differ in their low twelve bits are
kept apart. That default is PRESUMED (the spec's from general knowledge), and that reset takes it is the model's choice
(log 5). Decision of the spec: D9. -/
def Obligations.TranslateAddsSegment : Prop :=
  ∀ (s : State) (a : Word),
    (s.translation = none → ∃ g : Byte, (s.translate a).toNat = (a.toNat + 4096 * g.toNat) % 2 ^ 20 ∧
      (0xE000 ≤ a.toNat → g = s.xpc) ∧
      (a.toNat < 0xE000 → (s.platform.segsize >>> 4).toNat * 4096 ≤ a.toNat → g = s.platform.stackseg) ∧
      (a.toNat < 0xE000 → a.toNat < (s.platform.segsize >>> 4).toNat * 4096 →
        (s.platform.segsize &&& 0x0F).toNat * 4096 ≤ a.toNat → g = s.platform.dataseg) ∧
      (a.toNat < 0xE000 → a.toNat < (s.platform.segsize >>> 4).toNat * 4096 →
        a.toNat < (s.platform.segsize &&& 0x0F).toNat * 4096 → g = 0)) ∧
    (a.toNat < 0xE000 → ∀ x : Byte, State.translate { s with xpc := x } a = s.translate a) ∧
    (s.translation = none → ∀ b : Word, a.toNat % 4096 ≠ b.toNat % 4096 → s.translate a ≠ s.translate b)

/-- Reset: the values of 70_reset_and_hazards.md R680, which the spec takes from general knowledge (log 1); the registers
it leaves open, A to L, F, their alternates, IX, IY and SP, at zero, which is the model's choice (R682; log 2); the
parameters at the model's choice (logs 5, 6, 16, 17, 18, 21, 22); every byte of memory reads as a free value (log 3);
and a logical address is the physical one, by the default mapping of 20_memory.md R96 (D9, PRESUMED: log 5). -/
def Obligations.ResetValues : Prop :=
  State.reset.pc = 0x0000 ∧ State.reset.xpc = 0x00 ∧ State.reset.iir = 0x00 ∧ State.reset.eir = 0x00 ∧
  State.reset.ip = 0xFF ∧ State.reset.su = 0x00 ∧ State.reset.smvPending = false ∧ State.reset.deferIrq = false ∧
  State.reset.platform.edmrEnabled = false ∧ State.reset.platform.extWriteInhibit = true ∧
  State.reset.platform.segsize = 0 ∧ State.reset.platform.dataseg = 0 ∧ State.reset.platform.stackseg = 0 ∧
  (∀ r, State.reset.main.get r = 0 ∧ State.reset.alt.get r = 0) ∧
  State.reset.main.f.toByte = 0 ∧ State.reset.alt.f.toByte = 0 ∧
  State.reset.ix = 0 ∧ State.reset.iy = 0 ∧ State.reset.sp = 0 ∧
  State.reset.lastHadIoPrefix = false ∧ State.reset.variant = .r3000a ∧ State.reset.smv = none ∧
  State.reset.userRestriction = none ∧ State.reset.translation = none ∧ State.reset.platform.ports = [] ∧
  State.reset.ctx = PrefixCtx.idle ∧ State.reset.io = [] ∧ State.reset.irqs = [] ∧
  (∀ pa, State.reset.physRead pa = Config.uninitByte pa.toNat) ∧
  (∀ a : Word, (State.reset.translate a).toNat = a.toNat)

/-! ## 8-bit loads -/

/-- LD r,g and LD r,n (40_ld8.md R201, R202): the register of the destination bank takes the main register or the
constant; nothing else changes. Decision of the spec: D3 for ALTD (log 12). -/
def Obligations.RegisterLoads8 : Prop :=
  ∀ (r : Reg8) (s : State),
    (∀ g, ∃ t, exec (Form.ldRG r g) s = .next t ∧ (t.destBank s.ctx.altd).get r = s.main.get g ∧ WritesRegs [r] s t) ∧
    ∀ n, ∃ t, exec (Form.ldRN r n) s = .next t ∧ (t.destBank s.ctx.altd).get r = n ∧ WritesRegs [r] s t

/-- LD r,(HL); LD r,(IX+d); LD r,(IY+d); LD A,(BC); LD A,(DE); LD A,(mn) (40_ld8.md R203-R205, R212-R214), from memory
or the marked I/O space (20_memory.md R100-R102). Decisions of the spec: D3 for ALTD (log 12), D5 (log 25), D13 and
D30 for I/O (log 9), D22 for d (log 32). -/
def Obligations.MemoryLoads8 : Prop :=
  ∀ s : State,
    (∀ r, LoadsByte (Form.ldRAtHL r) r s.hl s) ∧
    (∀ x r d, LoadsByte (Form.ldRAtIdx x r d) r (s.idx x + d.signExtend 16) s) ∧
    LoadsByte .ld_A_atBC .a s.bc s ∧ LoadsByte .ld_A_atDE .a s.de s ∧ ∀ mn, LoadsByte (.ld_A_atMn mn) .a mn s

/-- LD (HL),r; LD (HL),n; LD (IX+d),r; LD (IX+d),n and with IY; LD (BC),A; LD (DE),A; LD (mn),A (40_ld8.md R206-R211,
R215-R217), to memory or the marked I/O space (20_memory.md R100-R103), where an internal write also sets the platform
register that the platform has put there (DESIGN CHOICE, log 6). Decisions of the spec: D5 (log 25), D13 and D30 for
I/O (log 9), D22 for d (log 32), D29 for the inhibit (log 10). -/
def Obligations.MemoryStores8 : Prop :=
  ∀ s : State,
    (∀ r, StoresOnly (Form.ldAtHLR r) s.hl (s.main.get r) s) ∧ (∀ n, StoresOnly (.ld_atHL_n n) s.hl n s) ∧
    (∀ x r d, StoresOnly (Form.ldAtIdxR x r d) (s.idx x + d.signExtend 16) (s.main.get r) s) ∧
    (∀ x d n, StoresOnly (Form.ldAtIdxN x d n) (s.idx x + d.signExtend 16) n s) ∧
    StoresOnly .ld_atBC_A s.bc s.main.a s ∧ StoresOnly .ld_atDE_A s.de s.main.a s ∧
    ∀ mn, StoresOnly (.ld_atMn_A mn) mn s.main.a s

/-- LD A,EIR; LD A,IIR; LD EIR,A; LD IIR,A; LD A,XPC; LD XPC,A (40_ld8.md R218-R223): the first two write S and Z and
no other flag, the last two defer interrupts. Decisions of the spec: D36 for LD A,XPC (log 20), D3 and D21 for ALTD
(log 12). -/
def Obligations.SpecialRegisterLoads : Prop :=
  ∀ s : State,
    (∀ i v, (i = .ld_A_EIR ∧ v = s.eir ∨ i = .ld_A_IIR ∧ v = s.iir) →
      ∃ t, exec i s = .next t ∧ (t.destBank s.ctx.altd).a = v ∧ WritesRegsFlags [.a] s t ∧
        FlagsAre (t.destFlags s.ctx.altd) (128 ≤ v.toNat) (v.toNat = 0) ((s.destFlags s.ctx.altd).lv = true)
          ((s.destFlags s.ctx.altd).c = true)) ∧
    exec .ld_EIR_A s = .next { s with eir := s.main.a } ∧ exec .ld_IIR_A s = .next { s with iir := s.main.a } ∧
    (∃ t, exec .ld_A_XPC s = .next t ∧ (t.destBank s.ctx.altd).a = s.xpc ∧
      WritesRegs [.a] { s with deferIrq := true } t) ∧
    exec .ld_XPC_A s = .next { s with xpc := s.main.a, deferIrq := true }

/-! ## 16-bit loads -/

/-- LD dd,mn; LD IX,mn; LD HL,IX; LD IX,HL and with IY; LD SP,HL; LD SP,IX; LD SP,IY; LD dd',BC; LD dd',DE (41_ld16.md
R241-R243, R264-R272). Decision of the spec: D3 for ALTD (log 12). Under ALTD LD SP,mn stops:
PrefixBytesAndTheirStops. -/
def Obligations.RegisterLoads16 : Prop :=
  ∀ s : State,
    (∀ (p : Pair) mn, ∃ t, exec (Form.ldDdMn p.dd mn) s = .next t ∧ (t.destBank s.ctx.altd).pair p = mn ∧
      WritesRegs p.regs s t) ∧
    (s.ctx.altd = false → ∀ mn, exec (Form.ldDdMn .sp mn) s = .next { s with sp := mn }) ∧
    (∀ x mn, ∃ t, exec (Form.ldIdxMn x mn) s = .next t ∧ t.idx x = mn ∧ WritesIdx x s t) ∧
    (∀ x, ∃ t, exec (Form.ldHLIdx x) s = .next t ∧ (t.destBank s.ctx.altd).pair .hl = s.idx x ∧
      WritesRegs [.h, .l] s t) ∧
    (∀ x, ∃ t, exec (Form.ldIdxHL x) s = .next t ∧ t.idx x = s.hl ∧ WritesIdx x s t) ∧
    exec .ld_SP_HL s = .next { s with sp := s.hl, deferIrq := true } ∧
    (∀ x, exec (Form.ldSPIdx x) s = .next { s with sp := s.idx x, deferIrq := true }) ∧
    ∀ (p : Pair) i v, (i = Form.ldAltBC p ∧ v = s.bc ∨ i = Form.ldAltDE p ∧ v = s.de) →
      ∃ t, exec i s = .next t ∧ t.alt.pair p = v ∧ t = { s with alt := t.alt } ∧ t.alt.f = s.alt.f ∧
        ∀ q, q ∉ p.regs → t.alt.get q = s.alt.get q

/-- LD HL,(mn); LD dd,(mn); LD IX,(mn); LD HL,(HL+d); LD HL,(IX+d) from memory or the marked I/O space; LD HL,(SP+n)
and LD IX,(SP+n) from memory always; and with IY (41_ld16.md R244-R247, R252-R254, R258-R260). Decisions of the spec:
D25 for unsigned n (log 32), D3 and D4 for the prefixes (log 12), D5 (log 25), D13 and D30 for I/O (log 9), D22 for d
(log 32). Under ALTD LD SP,(mn) stops: PrefixBytesAndTheirStops. -/
def Obligations.MemoryLoads16 : Prop :=
  ∀ s : State,
    (∀ (p : Pair) i a, ((∃ mn, a = mn ∧ i = Form.ldDdAtMn p.dd mn) ∨
        p = .hl ∧ ((∃ mn, a = mn ∧ i = .ld_HL_atMn mn) ∨ (∃ d, a = s.hl + d.signExtend 16 ∧ i = .ld_HL_atHLd d) ∨
          ∃ x d, a = s.idx x + d.signExtend 16 ∧ i = Form.ldHLAtIdx x d)) →
      ∃ v u t, exec i s = .next t ∧ ReadsWord s u a v ∧ (t.destBank s.ctx.altd).pair p = v ∧ WritesRegs p.regs u t) ∧
    (s.ctx.altd = false → ∀ mn, ∃ v u, exec (Form.ldDdAtMn .sp mn) s = .next { u with sp := v } ∧ ReadsWord s u mn v) ∧
    (∀ x mn, ∃ v u t, exec (Form.ldIdxAtMn x mn) s = .next t ∧ ReadsWord s u mn v ∧ t.idx x = v ∧ WritesIdx x u t) ∧
    (∀ n, ∃ t, exec (.ld_HL_atSPn n) s = .next t ∧
      ((t.destBank s.ctx.altd).pair .hl).toNat = s.wordAt (s.sp + n.setWidth 16) ∧ WritesRegs [.h, .l] s t) ∧
    ∀ x n, ∃ t, exec (Form.ldIdxAtSP x n) s = .next t ∧ (t.idx x).toNat = s.wordAt (s.sp + n.setWidth 16) ∧
      WritesIdx x s t

/-- LD (mn),HL; LD (mn),ss; LD (mn),IX; LD (HL+d),HL; LD (IX+d),HL to memory or the marked I/O space; LD (SP+n),HL and
LD (SP+n),IX to memory always, both bytes staying where the mapping keeps them apart; and with IY (41_ld16.md
R248-R251, R255-R257, R261-R263). An internal I/O write also sets the platform register that the platform has put
there (DESIGN CHOICE, log 6); that the default mapping keeps two bytes apart rests on 20_memory.md R96 (D9, PRESUMED:
log 5). Decisions of the spec: D25 for unsigned n (log 32), D4 for the prefixes (log 12), D5 (log 25), D13 and D30 for
I/O (log 9), D22 for d (log 32), D29 for the inhibit (log 10). -/
def Obligations.MemoryStores16 : Prop :=
  ∀ s : State,
    (∀ mn, StoresOnlyWord (.ld_atMn_HL mn) mn s.hl s) ∧ (∀ r mn, StoresOnlyWord (Form.ldAtMnSs r mn) mn (s.getDd r) s) ∧
    (∀ x mn, StoresOnlyWord (Form.ldAtMnIdx x mn) mn (s.idx x) s) ∧
    (∀ d, StoresOnlyWord (.ld_atHLd_HL d) (s.hl + d.signExtend 16) s.hl s) ∧
    (∀ x d, StoresOnlyWord (Form.ldAtIdxHL x d) (s.idx x + d.signExtend 16) s.hl s) ∧
    (∀ n, ∃ t, exec (.ld_atSPn_HL n) s = .next t ∧ StoresMemWord s t (s.sp + n.setWidth 16) s.hl) ∧
    ∀ x n, ∃ t, exec (Form.ldAtSPIdx x n) s = .next t ∧ StoresMemWord s t (s.sp + n.setWidth 16) (s.idx x)

/-- LDP (41_ld16.md R273-R284): stores and loads the low byte at physical `{A[3:0], a}` and the high byte at `{A[3:0],
a + 1}`, without a carry into bits 19..16 (20_memory.md R92, R93); the loads go to main HL, IX or IY; nothing else
changes, whatever the prefixes. Decisions of the spec: D3, D4 and D30 for the prefixes (30_encoding.md R143, R145; log
12). -/
def Obligations.LdpTransfers : Prop :=
  (∀ (s : State) (i : Instr) (a v : Word),
    (i = .ldp_atHL_HL ∧ a = s.hl ∧ v = s.hl ∨ (∃ x, i = Form.ldpAtIdxHL x ∧ a = s.idx x ∧ v = s.hl) ∨
      i = .ldp_atMn_HL a ∧ v = s.hl ∨ ∃ x, i = Form.ldpAtMnIdx x a ∧ v = s.idx x) →
    ∃ t, exec i s = .next t ∧ t.physRead (s.ldpAddr a) = v.setWidth 8 ∧
      t.physRead (s.ldpAddr (a + 1)) = (v >>> 8).setWidth 8 ∧ t = { s with mem := t.mem } ∧
      SameMemOutside [s.ldpAddr a, s.ldpAddr (a + 1)] s t) ∧
  ∀ (s : State) (a : Word),
    (∀ i, (i = .ldp_HL_atHL ∧ a = s.hl ∨ (∃ x, i = Form.ldpHLAtIdx x ∧ a = s.idx x) ∨ i = .ldp_HL_atMn a) →
      ∃ t, exec i s = .next t ∧ t.hl.toNat = s.ldpWord a ∧ t = { s with main := t.main } ∧ SameMem s t ∧
        t.main.f = s.main.f ∧ ∀ q, q ∉ [Reg8.h, .l] → t.main.get q = s.main.get q) ∧
    ∀ x, ∃ t, exec (Form.ldpIdxAtMn x a) s = .next t ∧ (t.idx x).toNat = s.ldpWord a ∧ WritesIdx x s t

/-! ## Stack and exchange -/

/-- PUSH zz, PUSH IX, PUSH IY, POP zz, POP IX, POP IY (20_memory.md R86; 42_stack_exchange.md R301-R303, R306-R308): a
push stores the high byte at SP-1 and the low byte at SP-2 and takes 2 from SP; a pop reads the low byte at SP and the
high byte at SP+1 and adds 2 to SP; always in logical memory, whatever the I/O prefix. Decisions of the spec: D8 for
the byte F of PUSH AF and POP AF (PRESUMED, log 7), D7 (log 8), D3 and D4 for the prefixes (log 12), D5 (log 25). The
high byte stays where the mapping keeps SP-1 and SP-2 apart; that the default does so rests on 20_memory.md R96 (D9,
PRESUMED: log 5). -/
def Obligations.StackOrder : Prop :=
  ∀ s : State,
    (∀ i v, ((∃ p : Pair, i = Form.pushZz p.zz ∧ v = s.main.pair p) ∨
        i = Form.pushZz .af ∧ v = mkWord s.main.a s.main.f.toByte ∨ ∃ x, i = Form.pushIdx x ∧ v = s.idx x) →
      ∃ t, exec i s = .next t ∧ PushedWord s t v ∧ t = { s with mem := t.mem, sp := t.sp }) ∧
    (∀ p : Pair, ∃ t, exec (Form.popZz p.zz) s = .next t ∧
      ((t.destBank s.ctx.altd).pair p).toNat = s.wordAt s.sp ∧ WritesRegs p.regs { s with sp := s.sp + 2 } t) ∧
    (∃ t, exec (Form.popZz .af) s = .next t ∧ (t.destBank s.ctx.altd).a = s.memRead8 (s.sp + 1) ∧
      (t.destFlags s.ctx.altd).toByte = s.memRead8 s.sp ∧ WritesRegsFlags [.a] { s with sp := s.sp + 2 } t) ∧
    ∀ x, ∃ t, exec (Form.popIdx x) s = .next t ∧ (t.idx x).toNat = s.wordAt s.sp ∧
      WritesIdx x { s with sp := s.sp + 2 } t

/-- PUSH IP, PUSH SU, POP IP, POP SU (42_stack_exchange.md R304, R305, R309, R310): one byte at SP-1 or SP; all but
PUSH IP defer interrupts. Decisions of the spec: D39 for all eight bits (log 33), D36 for what defers (log 20), D4 and
D5 (logs 12, 25). -/
def Obligations.OneByteStack : Prop :=
  ∀ s : State,
    (∃ m, exec .push_IP s = .next { m with sp := s.sp - 1 } ∧ StoresMemByte s m (s.sp - 1) s.ip) ∧
    (∃ m, exec .push_SU s = .next { m with sp := s.sp - 1, deferIrq := true } ∧ StoresMemByte s m (s.sp - 1) s.su) ∧
    exec .pop_IP s = .next { s with ip := s.memRead8 s.sp, sp := s.sp + 1, deferIrq := true } ∧
    exec .pop_SU s = .next { s with su := s.memRead8 s.sp, sp := s.sp + 1, deferIrq := true }

/-- EX AF,AF'; EXX; EX DE,HL; EX DE',HL (42_stack_exchange.md R311-R314). Decisions of the spec: D7 for the four other
bits of F in EX AF,AF' (log 8), D3 for the rows without a special case (log 12). -/
def Obligations.RegisterExchanges : Prop :=
  ∀ s : State,
    (∃ t, exec .ex_AF_AF' s = .next t ∧ t = { s with main := t.main, alt := t.alt } ∧
      t.main.a = s.alt.a ∧ t.main.f = s.alt.f ∧ t.alt.a = s.main.a ∧ t.alt.f = s.main.f ∧
      ∀ q, q ≠ .a → t.main.get q = s.main.get q ∧ t.alt.get q = s.alt.get q) ∧
    (∃ t, exec .exx s = .next t ∧ t = { s with main := t.main, alt := t.alt } ∧
      t.main.a = s.main.a ∧ t.main.f = s.main.f ∧ t.alt.a = s.alt.a ∧ t.alt.f = s.alt.f ∧
      ∀ q, q ≠ .a → t.main.get q = s.alt.get q ∧ t.alt.get q = s.main.get q) ∧
    (∃ t, exec .ex_DE_HL s = .next t ∧ t = { s with main := t.main, alt := t.alt } ∧
      t.main.pair .de = (s.destBank s.ctx.altd).pair .hl ∧ (t.destBank s.ctx.altd).pair .hl = s.main.pair .de ∧
      (s.ctx.altd = true → t.main.pair .hl = s.main.pair .hl ∧ t.alt.pair .de = s.alt.pair .de) ∧
      (s.ctx.altd = false → t.alt = s.alt) ∧ t.main.f = s.main.f ∧ t.alt.f = s.alt.f ∧
      ∀ q, q ∉ [Reg8.d, .e, .h, .l] → t.main.get q = s.main.get q ∧ t.alt.get q = s.alt.get q) ∧
    ∃ t, exec .ex_DE'_HL s = .next t ∧ t = { s with main := t.main, alt := t.alt } ∧
      t.alt.pair .de = (s.destBank s.ctx.altd).pair .hl ∧ (t.destBank s.ctx.altd).pair .hl = s.alt.pair .de ∧
      (s.ctx.altd = true → t.main = s.main) ∧
      (s.ctx.altd = false → t.main.pair .de = s.main.pair .de ∧ t.alt.pair .hl = s.alt.pair .hl) ∧
      t.main.f = s.main.f ∧ t.alt.f = s.alt.f ∧
      ∀ q, q ∉ [Reg8.d, .e, .h, .l] → t.main.get q = s.main.get q ∧ t.alt.get q = s.alt.get q

/-- EX (SP),HL; EX (SP),IX; EX (SP),IY (42_stack_exchange.md R315-R317): memory takes main HL or the index register,
the word read before goes to HL of the destination bank or to the index register. The low byte stays where the mapping
keeps SP and SP+1 apart; that the default does so rests on 20_memory.md R96 (D9, PRESUMED: log 5). Decisions of the
spec: D27 for ALTD, D38 for the order of accesses (log 28), D4, D5 (logs 12, 25). -/
def Obligations.StackExchanges : Prop :=
  ∀ s : State,
    (∃ m t, exec .ex_atSP_HL s = .next t ∧ StoresMemWord s m s.sp s.hl ∧
      ((t.destBank s.ctx.altd).pair .hl).toNat = s.wordAt s.sp ∧ WritesRegs [.h, .l] m t) ∧
    ∀ x, ∃ m t, exec (Form.exAtSPIdx x) s = .next t ∧ StoresMemWord s m s.sp (s.idx x) ∧
      (t.idx x).toNat = s.wordAt s.sp ∧ WritesIdx x m t

/-! ## 8-bit arithmetic and logic -/

/-- ADD and ADC in their four operand forms (43_alu8.md R340, R343-R352): A of the destination bank takes the sum
modulo 256, the flags are those of the sum, the carry into ADC is main C. ADD8 itself computes what R340 says.
Decisions of the spec: D3, D21 for ALTD (log 12), D13, D30 for I/O (log 9), D22 for d (log 32). The spec derives R340
from 10_state.md R38. -/
def Obligations.Additions8 : Prop :=
  (∀ (s : State) (op : AluOp) (c : Bool), (op = .add ∧ c = false ∨ op = .adc ∧ c = s.main.f.c) →
     AluForms op s (fun x u t =>
       (t.destBank s.ctx.altd).a.toNat = (s.main.a.toNat + x.toNat + c.toNat) % 256 ∧
       SumFlags8 (t.destFlags s.ctx.altd) s.main.a x c ∧ WritesRegsFlags [.a] u t)) ∧
  (∀ (a b : Byte) (cin : Bool), ∃ s z v c, (add8 a b cin).2 = { s := some s, z := some z, lv := some v, c := some c } ∧
    (add8 a b cin).1.toNat = (a.toNat + b.toNat + cin.toNat) % 256 ∧ s = (add8 a b cin).1.getLsbD 7 ∧
    (z = true ↔ (add8 a b cin).1 = 0) ∧
    (v = true ↔ a.getLsbD 7 = b.getLsbD 7 ∧ (add8 a b cin).1.getLsbD 7 ≠ a.getLsbD 7) ∧
    (v = true ↔ a.toInt + b.toInt + cin.toInt < -128 ∨ 127 < a.toInt + b.toInt + cin.toInt) ∧
    (c = true ↔ 255 < a.toNat + b.toNat + cin.toNat))

/-- SUB, SBC and CP in their four operand forms (43_alu8.md R353-R362, R378-R382): A of the destination bank takes the
difference modulo 256, but CP writes flags only. Decisions of the spec: D3, D21 for ALTD (log 12), D13, D30 for I/O
(log 9), D22 for d (log 32). -/
def Obligations.Subtractions8 : Prop :=
  ∀ (s : State) (c : Bool),
    (∀ op, (op = .sub ∧ c = false ∨ op = .sbc ∧ c = s.main.f.c) →
      AluForms op s (fun x u t =>
        (t.destBank s.ctx.altd).a.toNat = diff8 s.main.a x c ∧ DiffFlags8 (t.destFlags s.ctx.altd) s.main.a x c ∧
        WritesRegsFlags [.a] u t)) ∧
    AluForms .cp s (fun x u t => DiffFlags8 (t.destFlags s.ctx.altd) s.main.a x false ∧ WritesRegsFlags [] u t)

/-- AND, XOR and OR in their four operand forms (43_alu8.md R363-R377): bit by bit, C cleared, L/V the logical check.
Decisions of the spec: D3, D21 for ALTD (log 12), D13, D30 for I/O (log 9), D22 for d (log 32). -/
def Obligations.Logic8 : Prop :=
  ∀ (s : State) (op : AluOp) (f : Bool → Bool → Bool),
    (op = .and ∧ f = and ∨ op = .xor ∧ f = xor ∨ op = .or ∧ f = or) →
    AluForms op s (fun x u t =>
      (∀ k < 8, (t.destBank s.ctx.altd).a.getLsbD k = f (s.main.a.getLsbD k) (x.getLsbD k)) ∧
      LogicFlags8 (t.destFlags s.ctx.altd) (t.destBank s.ctx.altd).a False ∧ WritesRegsFlags [.a] u t)

/-- INC and DEC of a register and of (HL), (IX+d), (IY+d) (43_alu8.md R383-R390): S, Z and V of the sum or difference
with 1, C kept; an internal I/O write also sets the platform register that the platform has put there (DESIGN CHOICE,
log 6). Decisions of the spec: D3, D21 for ALTD (log 12), D13, D29, D30 for I/O (logs 9, 10), D22 for d (log 32). -/
def Obligations.IncDec8 : Prop :=
  ∀ s : State,
    (∀ r, ∃ t, exec (Form.incR r) s = .next t ∧ (t.destBank s.ctx.altd).get r = s.main.get r + 1 ∧
      FlagsAre (t.destFlags s.ctx.altd) (128 ≤ (s.main.get r + 1).toNat) (s.main.get r + 1 = 0)
        (s.main.get r = 0x7F) ((s.destFlags s.ctx.altd).c = true) ∧ WritesRegsFlags [r] s t) ∧
    (∀ r, ∃ t, exec (Form.decR r) s = .next t ∧ (t.destBank s.ctx.altd).get r = s.main.get r - 1 ∧
      FlagsAre (t.destFlags s.ctx.altd) (128 ≤ (s.main.get r - 1).toNat) (s.main.get r - 1 = 0)
        (s.main.get r = 0x80) ((s.destFlags s.ctx.altd).c = true) ∧ WritesRegsFlags [r] s t) ∧
    (∀ i a, (i = .inc_atHL ∧ a = s.hl ∨ ∃ x d, i = Form.incAtIdx x d ∧ a = s.idx x + d.signExtend 16) →
      Modifies i a s (fun x y t => y = x + 1 ∧
        FlagsAre (t.destFlags s.ctx.altd) (128 ≤ y.toNat) (y = 0) (x = 0x7F) ((s.destFlags s.ctx.altd).c = true))) ∧
    ∀ i a, (i = .dec_atHL ∧ a = s.hl ∨ ∃ x d, i = Form.decAtIdx x d ∧ a = s.idx x + d.signExtend 16) →
      Modifies i a s (fun x y t => y = x - 1 ∧
        FlagsAre (t.destFlags s.ctx.altd) (128 ≤ y.toNat) (y = 0) (x = 0x80) ((s.destFlags s.ctx.altd).c = true))

/-- NEG, CPL, CCF and SCF (43_alu8.md R391-R394). Decisions of the spec: D3, D21 for ALTD (log 12). -/
def Obligations.AccumulatorAndCarry : Prop :=
  ∀ s : State,
    (∃ t, exec .neg s = .next t ∧ (t.destBank s.ctx.altd).a.toNat = (256 - s.main.a.toNat) % 256 ∧
      DiffFlags8 (t.destFlags s.ctx.altd) 0 s.main.a false ∧ WritesRegsFlags [.a] s t) ∧
    (∃ t, exec .cpl s = .next t ∧ (t.destBank s.ctx.altd).a.toNat = 255 - s.main.a.toNat ∧ WritesRegs [.a] s t) ∧
    (∃ t, exec .ccf s = .next t ∧ (t.destFlags s.ctx.altd).c = !s.main.f.c ∧
      FlagsKept (t.destFlags s.ctx.altd) (s.destFlags s.ctx.altd) ∧ WritesRegsFlags [] s t) ∧
    ∃ t, exec .scf s = .next t ∧ (t.destFlags s.ctx.altd).c = true ∧
      FlagsKept (t.destFlags s.ctx.altd) (s.destFlags s.ctx.altd) ∧ WritesRegsFlags [] s t

/-! ## 16-bit arithmetic and logic -/

/-- ADD HL,ss; ADD IX,xx; ADD IY,yy; ADD SP,d (44_alu16.md R401-R404): the sum modulo 2^16 and C the carry out of bit
15, no other flag. Decisions of the spec: D15 for the C of ADD SP,d (log 27), D3, D21 for ALTD (log 12), D22 for d
(log 32). -/
def Obligations.Additions16 : Prop :=
  ∀ s : State,
    (∀ r, ∃ t, exec (Form.addHLSs r) s = .next t ∧
      ((t.destBank s.ctx.altd).pair .hl).toNat = (s.hl.toNat + (s.getDd r).toNat) % 65536 ∧
      ((t.destFlags s.ctx.altd).c = true ↔ 65536 ≤ s.hl.toNat + (s.getDd r).toNat) ∧
      FlagsKept (t.destFlags s.ctx.altd) (s.destFlags s.ctx.altd) ∧ WritesRegsFlags [.h, .l] s t) ∧
    (∀ x r, ∃ t, exec (Form.addIdx x r) s = .next t ∧
      (t.idx x).toNat = ((s.idx x).toNat + (s.getXx x r).toNat) % 65536 ∧
      ((t.destFlags s.ctx.altd).c = true ↔ 65536 ≤ (s.idx x).toNat + (s.getXx x r).toNat) ∧
      FlagsKept (t.destFlags s.ctx.altd) (s.destFlags s.ctx.altd) ∧ WritesIdxFlags x s t) ∧
    ∀ d : Byte, ∃ t, exec (.add_SP_d d) s = .next t ∧ t.sp = s.sp + d.signExtend 16 ∧
      ((t.destFlags s.ctx.altd).c = true ↔ 65536 ≤ s.sp.toNat + (d.signExtend 16).toNat) ∧
      FlagsKept (t.destFlags s.ctx.altd) (s.destFlags s.ctx.altd) ∧ WritesRegsFlags [] { s with sp := t.sp } t

/-- ADC HL,ss and SBC HL,ss (44_alu16.md R405, R406): with main C as carry or borrow, all four flags. Decisions of the
spec: D3 for ALTD (log 12). -/
def Obligations.AdcSbc16 : Prop :=
  ∀ (s : State) (r : Dd),
    (∃ t, exec (Form.adcHLSs r) s = .next t ∧
      ((t.destBank s.ctx.altd).pair .hl).toNat = (s.hl.toNat + (s.getDd r).toNat + s.main.f.c.toNat) % 65536 ∧
      FlagsAre (t.destFlags s.ctx.altd) (32768 ≤ ((t.destBank s.ctx.altd).pair .hl).toNat)
        ((t.destBank s.ctx.altd).pair .hl = 0)
        (s.hl.toInt + (s.getDd r).toInt + s.main.f.c.toInt < -32768 ∨
          32767 < s.hl.toInt + (s.getDd r).toInt + s.main.f.c.toInt)
        (65536 ≤ s.hl.toNat + (s.getDd r).toNat + s.main.f.c.toNat) ∧ WritesRegsFlags [.h, .l] s t) ∧
    ∃ t, exec (Form.sbcHLSs r) s = .next t ∧
      ((t.destBank s.ctx.altd).pair .hl).toNat =
        (65536 + s.hl.toNat - (s.getDd r).toNat - s.main.f.c.toNat) % 65536 ∧
      FlagsAre (t.destFlags s.ctx.altd) (32768 ≤ ((t.destBank s.ctx.altd).pair .hl).toNat)
        ((t.destBank s.ctx.altd).pair .hl = 0)
        (s.hl.toInt - (s.getDd r).toInt - s.main.f.c.toInt < -32768 ∨
          32767 < s.hl.toInt - (s.getDd r).toInt - s.main.f.c.toInt)
        (s.hl.toNat < (s.getDd r).toNat + s.main.f.c.toNat) ∧ WritesRegsFlags [.h, .l] s t

/-- AND and OR of HL, IX, IY with DE, and BOOL of HL, IX, IY (44_alu16.md R407-R415). Decisions of the spec: D40 for
the L flag as bits 15 to 12 (log 33), D3 for ALTD (log 12). -/
def Obligations.LogicAndBool16 : Prop :=
  ∀ s : State,
    (∀ i (f : Bool → Bool → Bool), (i = .and_HL_DE ∧ f = and ∨ i = .or_HL_DE ∧ f = or) →
      ∃ t, exec i s = .next t ∧
        (∀ k < 16, ((t.destBank s.ctx.altd).pair .hl).getLsbD k = f (s.hl.getLsbD k) (s.de.getLsbD k)) ∧
        LogicFlags16 (t.destFlags s.ctx.altd) ((t.destBank s.ctx.altd).pair .hl) False ∧
        WritesRegsFlags [.h, .l] s t) ∧
    (∀ x i (f : Bool → Bool → Bool), (i = Form.andIdxDE x ∧ f = and ∨ i = Form.orIdxDE x ∧ f = or) →
      ∃ t, exec i s = .next t ∧ (∀ k < 16, (t.idx x).getLsbD k = f ((s.idx x).getLsbD k) (s.de.getLsbD k)) ∧
        LogicFlags16 (t.destFlags s.ctx.altd) (t.idx x) False ∧ WritesIdxFlags x s t) ∧
    (∃ t, exec .bool_HL s = .next t ∧ ((t.destBank s.ctx.altd).pair .hl = if s.hl = 0 then 0 else 1) ∧
      FlagsAre (t.destFlags s.ctx.altd) False (s.hl = 0) False False ∧ WritesRegsFlags [.h, .l] s t) ∧
    ∀ x, ∃ t, exec (Form.boolIdx x) s = .next t ∧ (t.idx x = if s.idx x = 0 then 0 else 1) ∧
      FlagsAre (t.destFlags s.ctx.altd) False (s.idx x = 0) False False ∧ WritesIdxFlags x s t

/-- INC ss, DEC ss and with IX, IY (44_alu16.md R416-R421): modulo 2^16, no flag; INC SP and DEC SP without ALTD.
Decisions of the spec: D3 for ALTD (log 12), D17 for INC SP and DEC SP under ALTD, which stop:
PrefixBytesAndTheirStops (log 14). -/
def Obligations.IncDec16 : Prop :=
  ∀ s : State,
    (∀ p : Pair, ∃ t, exec (Form.incSs p.dd) s = .next t ∧ (t.destBank s.ctx.altd).pair p = s.main.pair p + 1 ∧
      WritesRegs p.regs s t) ∧
    (∀ p : Pair, ∃ t, exec (Form.decSs p.dd) s = .next t ∧ (t.destBank s.ctx.altd).pair p = s.main.pair p - 1 ∧
      WritesRegs p.regs s t) ∧
    (s.ctx.altd = false → exec (Form.incSs .sp) s = .next { s with sp := s.sp + 1 } ∧
      exec (Form.decSs .sp) s = .next { s with sp := s.sp - 1 }) ∧
    (∀ x, ∃ t, exec (Form.incIdx x) s = .next t ∧ t.idx x = s.idx x + 1 ∧ WritesIdx x s t) ∧
    ∀ x, ∃ t, exec (Form.decIdx x) s = .next t ∧ t.idx x = s.idx x - 1 ∧ WritesIdx x s t

/-- MUL (44_alu16.md R422): HL:BC takes the 32-bit signed product of BC and DE, in the main bank whatever the
prefixes; no flag. Decision of the spec: D3 for ALTD (30_encoding.md R143; log 12). -/
def Obligations.MulSigned : Prop :=
  ∀ s : State, ∃ t, exec .mul s = .next t ∧
    (65536 * t.hl.toNat + t.bc.toNat : Int) = (s.bc.toInt * s.de.toInt) % 2 ^ 32 ∧
    t = { s with main := t.main } ∧ SameMem s t ∧ t.main.f = s.main.f ∧ t.main.a = s.main.a ∧ t.de = s.de

/-! ## Rotates, shifts, bits -/

/-- RLCA, RLA, RRCA, RRA and the seven rotates and shifts of a register (45_rotate_shift.md R441-R445, R449, R453,
R457, R461, R465, R469): the first four write C only, the others all four flags. Decisions of the spec: D3, D21 for
ALTD (log 12). -/
def Obligations.RegisterRotates : Prop :=
  ∀ s : State,
    (∀ i op, (i = .rlca ∧ op = .rlc ∨ i = .rla ∧ op = .rl ∨ i = .rrca ∧ op = .rrc ∨ i = .rra ∧ op = .rr) →
      ∃ t, exec i s = .next t ∧
        Rotated op s.main.a (t.destBank s.ctx.altd).a s.main.f.c (t.destFlags s.ctx.altd).c ∧
        FlagsKept (t.destFlags s.ctx.altd) (s.destFlags s.ctx.altd) ∧ WritesRegsFlags [.a] s t) ∧
    ∀ op r, ∃ t, exec (Form.rotR op r) s = .next t ∧
      Rotated op (s.main.get r) ((t.destBank s.ctx.altd).get r) s.main.f.c (t.destFlags s.ctx.altd).c ∧
      LogicFlags8 (t.destFlags s.ctx.altd) ((t.destBank s.ctx.altd).get r) ((t.destFlags s.ctx.altd).c = true) ∧
      WritesRegsFlags [r] s t

/-- The seven rotates and shifts of (HL), (IX+d) and (IY+d), in memory or the marked I/O space (45_rotate_shift.md
R446-R472; 20_memory.md R104), where an internal I/O write also sets the platform register that the platform has put
there (DESIGN CHOICE, log 6). Decisions of the spec: D3 for ALTD (log 12), D13, D29, D30 for I/O (logs 9, 10), D22
for d (log 32). -/
def Obligations.MemoryRotates : Prop :=
  ∀ (s : State) (op : RotOp) (i : Instr) (a : Word),
    (i = Form.rotAtHL op ∧ a = s.hl ∨ ∃ x d, i = Form.rotAtIdx op x d ∧ a = s.idx x + d.signExtend 16) →
    Modifies i a s (fun x y t =>
      Rotated op x y s.main.f.c (t.destFlags s.ctx.altd).c ∧
      LogicFlags8 (t.destFlags s.ctx.altd) y ((t.destFlags s.ctx.altd).c = true))

/-- RL DE, RR DE, RR HL, RR IX, RR IY (45_rotate_shift.md R473-R477): 17-bit rotates through main C. Decisions of the
spec: D40 for the L flag as bits 15 to 12 (log 33), D3 for ALTD (log 12). -/
def Obligations.WordRotates : Prop :=
  ∀ s : State,
    (∃ t, exec .rl_DE s = .next t ∧
      ((t.destBank s.ctx.altd).pair .de).toNat = 2 * s.de.toNat % 65536 + s.main.f.c.toNat ∧
      LogicFlags16 (t.destFlags s.ctx.altd) ((t.destBank s.ctx.altd).pair .de) (32768 ≤ s.de.toNat) ∧
      WritesRegsFlags [.d, .e] s t) ∧
    (∀ i (p : Pair), (i = .rr_DE ∧ p = .de ∨ i = .rr_HL ∧ p = .hl) →
      ∃ t, exec i s = .next t ∧
        ((t.destBank s.ctx.altd).pair p).toNat = (s.main.pair p).toNat / 2 + 32768 * s.main.f.c.toNat ∧
        LogicFlags16 (t.destFlags s.ctx.altd) ((t.destBank s.ctx.altd).pair p) ((s.main.pair p).toNat % 2 = 1) ∧
        WritesRegsFlags p.regs s t) ∧
    ∀ x, ∃ t, exec (Form.rrIdx x) s = .next t ∧
      (t.idx x).toNat = (s.idx x).toNat / 2 + 32768 * s.main.f.c.toNat ∧
      LogicFlags16 (t.destFlags s.ctx.altd) (t.idx x) ((s.idx x).toNat % 2 = 1) ∧ WritesIdxFlags x s t

/-- BIT b of a register, (HL), (IX+d), (IY+d) (46_bit.md R481-R484): Z is set if the bit is 0, no other flag; BIT
b,(HL) defers interrupts. Decisions of the spec: D3, D21 for ALTD (log 12), D31 (log 20), D13, D30 for I/O (log 9),
D22 for d (log 32). -/
def Obligations.BitTests : Prop :=
  ∀ (s : State) (b : BitNo),
    (∀ r, ∃ t, exec (Form.bitR b r) s = .next t ∧ WritesRegsFlags [] s t ∧
      FlagsAre (t.destFlags s.ctx.altd) ((s.destFlags s.ctx.altd).s = true) ((s.main.get r).getLsbD b.toNat = false)
        ((s.destFlags s.ctx.altd).lv = true) ((s.destFlags s.ctx.altd).c = true)) ∧
    RunsOn (Form.bitAtHL b) s.hl s (fun x u t => WritesRegsFlags [] { u with deferIrq := true } t ∧
      FlagsAre (t.destFlags s.ctx.altd) ((s.destFlags s.ctx.altd).s = true) (x.getLsbD b.toNat = false)
        ((s.destFlags s.ctx.altd).lv = true) ((s.destFlags s.ctx.altd).c = true)) ∧
    ∀ x d, RunsOn (Form.bitAtIdx b x d) (s.idx x + d.signExtend 16) s (fun v u t => WritesRegsFlags [] u t ∧
      FlagsAre (t.destFlags s.ctx.altd) ((s.destFlags s.ctx.altd).s = true) (v.getLsbD b.toNat = false)
        ((s.destFlags s.ctx.altd).lv = true) ((s.destFlags s.ctx.altd).c = true))

/-- RES b and SET b of a register, (HL), (IX+d), (IY+d) (46_bit.md R485-R492): one bit cleared or set, no flag. In
memory or the marked I/O space both for the read and the write (20_memory.md R104; for RES the spec's decision D26,
log 28); an internal I/O write also sets the platform register that the platform has put there (DESIGN CHOICE, log 6).
Other decisions of the spec: D3 for ALTD (log 12), D13, D29, D30 for I/O (logs 9, 10), D22 for d (log 32). -/
def Obligations.BitWrites : Prop :=
  ∀ (s : State) (b : BitNo),
    (∀ r i v, (i = Form.resR b r ∧ v = false ∨ i = Form.setR b r ∧ v = true) →
      ∃ t, exec i s = .next t ∧ WritesRegs [r] s t ∧
        ∀ k < 8, ((t.destBank s.ctx.altd).get r).getLsbD k = if k = b.toNat then v else (s.main.get r).getLsbD k) ∧
    ∀ i a v, (i = Form.resAtHL b ∧ a = s.hl ∧ v = false ∨ i = Form.setAtHL b ∧ a = s.hl ∧ v = true ∨
        ∃ x d, a = s.idx x + d.signExtend 16 ∧
          (i = Form.resAtIdx b x d ∧ v = false ∨ i = Form.setAtIdx b x d ∧ v = true)) →
      ∃ x y u t, exec i s = .next t ∧ ReadsByte s u a x ∧ StoresByte u t a y ∧
        ∀ k < 8, y.getLsbD k = if k = b.toNat then v else x.getLsbD k

/-! ## Control -/

/-- JP mn; JP f,mn; JP (HL); JP (IX); JP (IY); JR e; JR cc,e; DJNZ e (47_control.md R501-R508): PC, and for DJNZ B of
the destination bank, and nothing else. Decisions of the spec: D27 for DJNZ under ALTD, which writes B' and branches
on that value (log 28), D6 for PC modulo 2^16 (log 25). -/
def Obligations.Jumps : Prop :=
  ∀ s : State,
    (∀ mn, exec (.jp_mn mn) s = .next { s with pc := mn }) ∧
    (∀ f mn, exec (Form.jpF f mn) s = .next (if s.cond f then { s with pc := mn } else s)) ∧
    exec .jp_atHL s = .next { s with pc := s.hl } ∧ (∀ x, exec (Form.jpIdx x) s = .next { s with pc := s.idx x }) ∧
    (∀ k : Byte, exec (.jr_e k) s = .next { s with pc := s.pc + k.signExtend 16 }) ∧
    (∀ cc (k : Byte), exec (Form.jrCc cc k) s =
      .next (if s.cond cc.toCond then { s with pc := s.pc + k.signExtend 16 } else s)) ∧
    ∀ k : Byte, ∃ t, exec (.djnz_e k) s = .next t ∧ (t.destBank s.ctx.altd).b = s.main.b - 1 ∧
      t.pc = (if s.main.b = 1 then s.pc else s.pc + k.signExtend 16) ∧ WritesRegs [.b] { s with pc := t.pc } t

/-- CALL mn, RST v, SYSCALL push the address of the next instruction and jump; RET and RET f pop PC (47_control.md
R509-R511, R515; 49_prefix_system.md R584; 60_exceptions.md R650). Decision of the spec: D5 (log 25). The high byte
stays where the mapping keeps SP-1 and SP-2 apart; that the default does so rests on 20_memory.md R96 (D9, PRESUMED:
log 5). -/
def Obligations.CallsAndReturns : Prop :=
  ∀ s : State,
    (∀ (i : Instr) (a : Word), (i = .call_mn a ∨
        (∃ v o, i = Form.rst v ∧ (v, o) ∈ [(Rst.v10, 0x20), (.v18, 0x30), (.v20, 0x40), (.v28, 0x50), (.v38, 0x70)] ∧
          a.toNat = 256 * s.iir.toNat + o) ∨ i = .syscall ∧ a.toNat = 256 * s.iir.toNat + 0x60) →
      ∃ t, exec i s = .next t ∧ PushedWord s t s.pc ∧ t = { s with mem := t.mem, sp := t.sp, pc := a }) ∧
    (∃ p : Word, exec .ret s = .next { s with pc := p, sp := s.sp + 2 } ∧ p.toNat = s.wordAt s.sp) ∧
    ∀ f, (s.cond f = false → exec (Form.retF f) s = .next s) ∧
      (s.cond f = true →
        ∃ p : Word, exec (Form.retF f) s = .next { s with pc := p, sp := s.sp + 2 } ∧ p.toNat = s.wordAt s.sp)

/-- After a call, RST or SYSCALL, RET comes back with SP as before, and nothing but PC and the two stack bytes has
changed; PC is the next instruction's where the mapping keeps SP-1 and SP-2 apart (47_control.md R509, R510, R515;
49_prefix_system.md R584). That the default does so rests on 20_memory.md R96 (D9, PRESUMED: log 5). Decision of the
spec: D5 (log 25). -/
def Obligations.ReturnUndoesCall : Prop :=
  ∀ (s t : State) (i : Instr), ((∃ mn, i = .call_mn mn) ∨ (∃ v, i = Form.rst v) ∨ i = .syscall) →
    exec i s = .next t → ∃ u, exec .ret t = .next u ∧ u = { s with mem := u.mem, pc := u.pc } ∧
      (s.apart (s.sp - 1) (s.sp - 2) → u.pc = s.pc) ∧
      SameMemOutside [s.translate (s.sp - 1), s.translate (s.sp - 2)] s u

/-- LJP x,mn; LCALL x,mn; LRET (47_control.md R512-R514): LCALL stores XPC at SP-1 and the next address at SP-2 and
SP-3, LRET reads them back, and undoes LCALL where the stack is not in the XPC window, which a mapping does not see
below E000 (20_memory.md R95). A stored byte stays where the mapping keeps its address apart from those stored to
after it; that the default does so rests on 20_memory.md R96 (D9, PRESUMED: log 5). Decisions of the spec: D19 for any
target, also below E000 (log 24), D5 (log 25). -/
def Obligations.LongCalls : Prop :=
  ∀ (s : State) (x : Byte) (mn : Word),
    exec (.ljp_x_mn mn x) s = .next { s with xpc := x, pc := mn } ∧
    (∃ t, exec (.lcall_x_mn mn x) s = .next t ∧
      t = { s with mem := t.mem, sp := s.sp - 3, xpc := x, pc := mn } ∧
      (s.apart (s.sp - 1) (s.sp - 2) → s.apart (s.sp - 1) (s.sp - 3) →
        t.physRead (s.translate (s.sp - 1)) = s.xpc) ∧
      (s.apart (s.sp - 2) (s.sp - 3) → t.physRead (s.translate (s.sp - 2)) = (s.pc >>> 8).setWidth 8) ∧
      t.physRead (s.translate (s.sp - 3)) = s.pc.setWidth 8 ∧
      SameMemOutside [s.translate (s.sp - 1), s.translate (s.sp - 2), s.translate (s.sp - 3)] s t ∧
      (3 ≤ s.sp.toNat → s.sp.toNat ≤ 0xE000 → s.apart (s.sp - 1) (s.sp - 2) → s.apart (s.sp - 1) (s.sp - 3) →
        s.apart (s.sp - 2) (s.sp - 3) → ∃ u, exec .lret t = .next u ∧ u = { s with mem := u.mem } ∧ SameMem t u)) ∧
    ∃ p : Word, exec .lret s = .next { s with pc := p, xpc := s.memRead8 (s.sp + 2), sp := s.sp + 3 } ∧
      p.toNat = s.wordAt s.sp

/-! ## Block moves -/

/-- LDI, LDD, LDIR, LDDR, LDISR, LDDSR (48_block.md R540-R546): one byte from memory at HL to memory or the marked I/O
space at DE, the pointers moved as each says, BC down, L/V set if BC is not 0 then, no other flag; a repeating form
leaves PC at its first byte until BC is 0. Decisions of the spec: D28 for BC = 0 on entry, which runs on, and D41 for
one iteration a step with PC back at the first byte (log 26), D3 (log 12), D13, D29, D30 for I/O (logs 9, 10). An
internal I/O write also sets the platform register that the platform has put there (DESIGN CHOICE, log 6). -/
def Obligations.BlockMovesOut : Prop :=
  ∀ (s : State) (i : Instr) (dDE dHL : Word) (rep : Bool),
    (i, dDE, dHL, rep) ∈ [(Instr.ldi, (1 : Word), (1 : Word), false), (.ldd, -1, -1, false), (.ldir, 1, 1, true),
      (.lddr, -1, -1, true), (.ldisr, 0, 1, true), (.lddsr, 0, -1, true)] →
    ∃ m t, exec i s = .next t ∧ StoresByte s m s.de (s.memRead8 s.hl) ∧
      t = { m with main := t.main, pc := t.pc, draws := t.draws } ∧
      t.de = s.de + dDE ∧ t.hl = s.hl + dHL ∧ t.bc = s.bc - 1 ∧ t.main.a = s.main.a ∧
      FlagsAre t.main.f (s.main.f.s = true) (s.main.f.z = true) (s.bc ≠ 1) (s.main.f.c = true) ∧
      t.pc = if rep = true ∧ s.bc ≠ 1 then s.ctx.first else s.pc

/-- LSIR, LSDR, LSIDR, LSDDR (48_block.md R540, R547-R550): as above, from memory or the marked I/O space at HL to
memory at DE. Decisions of the spec: D28 for BC = 0 on entry, which runs on, and D41 for one iteration a step with PC
back at the first byte (log 26), D3 (log 12), D13, D30 for I/O (log 9). -/
def Obligations.BlockMovesIn : Prop :=
  ∀ (s : State) (i : Instr) (dDE dHL : Word),
    (i, dDE, dHL) ∈ [(Instr.lsir, (1 : Word), (1 : Word)), (.lsdr, -1, -1), (.lsidr, 1, 0), (.lsddr, -1, 0)] →
    ∃ x u m t, exec i s = .next t ∧ ReadsByte s u s.hl x ∧ StoresMemByte u m s.de x ∧
      t = { m with main := t.main, pc := t.pc, draws := t.draws } ∧
      t.de = s.de + dDE ∧ t.hl = s.hl + dHL ∧ t.bc = s.bc - 1 ∧ t.main.a = s.main.a ∧
      FlagsAre t.main.f (s.main.f.s = true) (s.main.f.z = true) (s.bc ≠ 1) (s.main.f.c = true) ∧
      t.pc = if s.bc ≠ 1 then s.ctx.first else s.pc

/-- UMA and UMS (48_block.md R551, R552): (HL), DE' and C take the 25 bits of (IX) plus or minus (IY)*DE + DE' + C;
IX, IY and HL go up, BC down; PC stays at the first byte until BC is 0; no other flag. Decisions of the spec: D16 for
the 25 bits (log 27), D28 for BC = 0 on entry and D41 for one iteration a step with PC back at the first byte (log
26), D38 for the order of accesses (log 28), D3 and D4 (log 12). -/
def Obligations.MultiplyAccumulate : Prop :=
  ∀ (s : State) (i : Instr) (v : Int),
    (i = .uma ∧ v = ((s.memRead8 s.ix).toNat + ((s.memRead8 s.iy).toNat * s.de.toNat + (s.alt.pair .de).toNat +
        s.main.f.c.toNat) : Int) % 2 ^ 25 ∨
      i = .ums ∧ v = ((s.memRead8 s.ix).toNat - ((s.memRead8 s.iy).toNat * s.de.toNat + (s.alt.pair .de).toNat +
        s.main.f.c.toNat) : Int) % 2 ^ 25) →
    ∃ m t b, exec i s = .next t ∧ StoresMemByte s m s.hl b ∧ (b.toNat : Int) = v % 256 ∧
      ((t.alt.pair .de).toNat : Int) = v / 256 % 65536 ∧ (t.main.f.c = true ↔ 2 ^ 24 ≤ v) ∧
      t = { m with main := t.main, alt := t.alt, ix := s.ix + 1, iy := s.iy + 1, pc := t.pc, draws := t.draws } ∧
      t.hl = s.hl + 1 ∧ t.bc = s.bc - 1 ∧ t.de = s.de ∧ t.main.a = s.main.a ∧ FlagsKept t.main.f s.main.f ∧
      t.alt.f = s.alt.f ∧ (∀ q, q ∉ [Reg8.d, .e] → t.alt.get q = s.alt.get q) ∧
      t.pc = if s.bc ≠ 1 then s.ctx.first else s.pc

/-! ## Priority, mode, interrupts -/

/-- NOP, IPSET 0 to 3, IPRES and RETI (49_prefix_system.md R570, R574-R579; 60_exceptions.md R623): IP is a stack of
four priorities; all but NOP defer interrupts. Decisions of the spec: D39 for RETI loading all eight bits of IP (log
33), D31 for the deferral (log 20), D5 (log 25). -/
def Obligations.PriorityInstructions : Prop :=
  ∀ s : State,
    exec .nop s = .next s ∧
    (∀ i p, (i, p) ∈ [(Instr.ipset_0, 0), (.ipset_1, 1), (.ipset_2, 2), (.ipset_3, 3)] →
      ∃ ip : Byte, exec i s = .next { s with ip := ip, deferIrq := true } ∧ ip.toNat = s.ip.toNat * 4 % 256 + p) ∧
    (∃ ip : Byte, exec .ipres s = .next { s with ip := ip, deferIrq := true } ∧
      ip.toNat = s.ip.toNat / 4 + 64 * (s.ip.toNat % 4)) ∧
    ∃ p : Word, exec .reti s = .next { s with ip := s.memRead8 s.sp, pc := p, sp := s.sp + 3, deferIrq := true } ∧
      p.toNat = s.wordAt (s.sp + 1)

/-- IDET, RDMODE, SETUSR and SURES (49_prefix_system.md R580-R583; 60_exceptions.md R640, R642): SU is a stack of four
modes; IDET requests the System Mode Violation in user mode where it is enabled, and is LD E',E under ALTD. Decisions
of the spec: D36 for RDMODE deferring interrupts (log 20), D3 for RDMODE writing main C under ALTD (log 12), D23 for
SETUSR and SURES in either mode (log 22), D10 for the enable (log 23), D20 for the pending violation (log 21), D31
(log 20). -/
def Obligations.ModeInstructions : Prop :=
  ∀ s : State,
    (s.ctx.altd = true → ∃ t, exec .idet s = .next t ∧ t.alt.e = s.main.e ∧ WritesRegs [.e] s t) ∧
    (s.ctx.altd = false → exec .idet s = .next { s with smvPending := s.smvPending ||
      (s.platform.edmrEnabled && decide (s.su.toNat % 2 = 1)) }) ∧
    (∃ t, exec .rdmode s = .next t ∧ (t.main.f.c = true ↔ s.su.toNat % 2 = 1) ∧ FlagsKept t.main.f s.main.f ∧
      (∀ q, t.main.get q = s.main.get q) ∧ t = { s with main := t.main, deferIrq := true, draws := t.draws }) ∧
    (∃ su : Byte, exec .setusr s = .next { s with su := su, deferIrq := true } ∧
      su.toNat = s.su.toNat * 4 % 256 + 1) ∧
    ∃ su : Byte, exec .sures s = .next { s with su := su, deferIrq := true } ∧
      su.toNat = s.su.toNat / 4 + 64 * (s.su.toNat % 4)

/-- Acceptance (60_exceptions.md R622, R631, R632, R640, R641): nothing while interrupts are deferred or no request is
above the processor's priority IP[1:0]; else the first of those with the highest priority among the presented requests
in their order and behind them, exactly if it is pending and the platform gives it a priority and a vector, the System
Mode Violation: the last of equals. Decisions of the spec: D31 for the deferral (log 20), D20 for the violation as one
more request (log 21); its place behind its equals is the model's choice (log 21); D13 for the order of the presented
requests (log 18). -/
def Obligations.InterruptAcceptance : Prop :=
  ∀ (s : State) (ps : List IntRequest),
    (s.accepted ps = none ↔ s.deferIrq = true ∨ ∀ q ∈ s.candidates ps, q.1.prio.toNat ≤ s.ip.toNat % 4) ∧
    (∀ q, s.accepted ps = some q → s.ip.toNat % 4 < q.1.prio.toNat ∧
      ∃ before after, s.candidates ps = before ++ q :: after ∧
        (∀ r ∈ before, r.1.prio.toNat < q.1.prio.toNat) ∧ ∀ r ∈ after, r.1.prio.toNat ≤ q.1.prio.toNat) ∧
    (∀ v, s.smvPending = true → s.smv = some v → s.candidates ps = ps.map (fun r => (r, false)) ++ [(v, true)]) ∧
    (s.smvPending = false ∨ s.smv = none → s.candidates ps = ps.map (fun r => (r, false)))

/-- TAKING AN INTERRUPT (60_exceptions.md R633, R640; 70_reset_and_hazards.md R690, R708). On a platform that supplies
the entry sequence, that sequence of the accepted request; by the default, which `step` takes, PC is pushed, the
priority pushed on IP, PC at the vector, the deferral over. In both the memory of an I/O prefix is cleared, an
accepted System Mode Violation is no longer pending, and one entry of the schedule of requests is used up. By the
default nothing else changes. Decisions of the spec: D34 for the default (PRESUMED, log 19), D33 for the I/O prefix
(log 16), D13 for the schedule (log 18), D20 for the violation (log 21). The high byte of PC stays where the mapping
keeps SP-1 and SP-2 apart; that the default mapping does so rests on 20_memory.md R96 (D9, PRESUMED: log 5). -/
def Obligations.InterruptEntry : Prop :=
  ∀ (restricted : UserModeRestriction) (enter : EntrySequence) (s : State) (r : IntRequest) (b : Bool),
    s.accepted s.presented = some (r, b) →
    s.runWith restricted enter = .next { enter r { s with irqs := s.irqs.tail } with
      lastHadIoPrefix := false, smvPending := (enter r { s with irqs := s.irqs.tail }).smvPending && !b } ∧
    ∃ t, step s = .next t ∧ PushedWord s t s.pc ∧ t.ip.toNat = s.ip.toNat * 4 % 256 + r.prio.toNat ∧
      t.pc.toNat = 256 * (match r.cls with | .internal => s.iir | .external => s.eir).toNat + r.offset.toNat ∧
      t = { s with mem := t.mem, sp := t.sp, ip := t.ip, pc := t.pc, deferIrq := false, lastHadIoPrefix := false,
                   smvPending := s.smvPending && !b, irqs := s.irqs.tail }

/-- IPRES then RET undo the entry (60_exceptions.md R634; log 19): SP and the three newer priorities of IP as before it,
PC too where the mapping keeps SP-1 and SP-2 apart, and interrupts deferred from IPRES until RET. That the default
mapping does so rests on 20_memory.md R96 (D9, PRESUMED: log 5). Decisions of the spec: D34 for the entry (PRESUMED,
log 19), D31 for the deferral (log 20). -/
def Obligations.IpresRetUndoesEntry : Prop :=
  ∀ (s : State) (r : IntRequest) (b : Bool), ∃ u v, exec .ipres (s.takeInterrupt r b) = .next u ∧ u.deferIrq = true ∧
    exec .ret u = .next v ∧ (s.apart (s.sp - 1) (s.sp - 2) → v.pc = s.pc) ∧ v.sp = s.sp ∧
    v.ip.toNat % 64 = s.ip.toNat % 64 ∧
    v.main = s.main ∧ v.alt = s.alt ∧ v.ix = s.ix ∧ v.iy = s.iy ∧ v.xpc = s.xpc ∧ v.su = s.su

end
end

