-- ==== Sys2Proof/Laws/FormCases.lean ====
section
/-! SUPPORT. Every instruction is one of 68 forms or one of 87 single rows: case analysis by form, for statements about
all instructions. -/

namespace Sys2Proof

open Machine

/-- Case analysis of an instruction by its form. -/
theorem Instr.form_cases {motive : Instr → Prop}
    (ldDdMn : ∀ (u : Dd) (mn : Word), motive (Form.ldDdMn u mn))
    (incSs : ∀ (u : Dd), motive (Form.incSs u))
    (incR : ∀ (u : Reg8), motive (Form.incR u))
    (decR : ∀ (u : Reg8), motive (Form.decR u))
    (ldRN : ∀ (u : Reg8) (n : Byte), motive (Form.ldRN u n))
    (addHLSs : ∀ (u : Dd), motive (Form.addHLSs u))
    (decSs : ∀ (u : Dd), motive (Form.decSs u))
    (jrCc : ∀ (u : Cc) (k : Byte), motive (Form.jrCc u k))
    (ldRG : ∀ (u : Reg8) (v : Reg8), motive (Form.ldRG u v))
    (ldRAtHL : ∀ (u : Reg8), motive (Form.ldRAtHL u))
    (ldAtHLR : ∀ (u : Reg8), motive (Form.ldAtHLR u))
    (aluR : ∀ (u : AluOp) (v : Reg8), motive (Form.aluR u v))
    (aluAtHL : ∀ (u : AluOp), motive (Form.aluAtHL u))
    (retF : ∀ (u : Cond), motive (Form.retF u))
    (popZz : ∀ (u : Zz), motive (Form.popZz u))
    (jpF : ∀ (u : Cond) (mn : Word), motive (Form.jpF u mn))
    (pushZz : ∀ (u : Zz), motive (Form.pushZz u))
    (aluN : ∀ (u : AluOp) (n : Byte), motive (Form.aluN u n))
    (rst : ∀ (u : Rst), motive (Form.rst u))
    (ldHLAtIdx : ∀ (u : Idx) (d : Byte), motive (Form.ldHLAtIdx u d))
    (ldAtIdxHL : ∀ (u : Idx) (d : Byte), motive (Form.ldAtIdxHL u d))
    (rotR : ∀ (u : RotOp) (v : Reg8), motive (Form.rotR u v))
    (rotAtHL : ∀ (u : RotOp), motive (Form.rotAtHL u))
    (bitR : ∀ (u : BitNo) (v : Reg8), motive (Form.bitR u v))
    (bitAtHL : ∀ (u : BitNo), motive (Form.bitAtHL u))
    (resR : ∀ (u : BitNo) (v : Reg8), motive (Form.resR u v))
    (resAtHL : ∀ (u : BitNo), motive (Form.resAtHL u))
    (setR : ∀ (u : BitNo) (v : Reg8), motive (Form.setR u v))
    (setAtHL : ∀ (u : BitNo), motive (Form.setAtHL u))
    (addIdx : ∀ (u : Idx) (v : Xx), motive (Form.addIdx u v))
    (ldIdxMn : ∀ (u : Idx) (mn : Word), motive (Form.ldIdxMn u mn))
    (ldAtMnIdx : ∀ (u : Idx) (mn : Word), motive (Form.ldAtMnIdx u mn))
    (incIdx : ∀ (u : Idx), motive (Form.incIdx u))
    (ldIdxAtMn : ∀ (u : Idx) (mn : Word), motive (Form.ldIdxAtMn u mn))
    (decIdx : ∀ (u : Idx), motive (Form.decIdx u))
    (incAtIdx : ∀ (u : Idx) (d : Byte), motive (Form.incAtIdx u d))
    (decAtIdx : ∀ (u : Idx) (d : Byte), motive (Form.decAtIdx u d))
    (ldAtIdxN : ∀ (u : Idx) (d : Byte) (n : Byte), motive (Form.ldAtIdxN u d n))
    (ldRAtIdx : ∀ (u : Idx) (v : Reg8) (d : Byte), motive (Form.ldRAtIdx u v d))
    (ldpAtIdxHL : ∀ (u : Idx), motive (Form.ldpAtIdxHL u))
    (ldpAtMnIdx : ∀ (u : Idx) (mn : Word), motive (Form.ldpAtMnIdx u mn))
    (ldpHLAtIdx : ∀ (u : Idx), motive (Form.ldpHLAtIdx u))
    (ldpIdxAtMn : ∀ (u : Idx) (mn : Word), motive (Form.ldpIdxAtMn u mn))
    (ldAtIdxR : ∀ (u : Idx) (v : Reg8) (d : Byte), motive (Form.ldAtIdxR u v d))
    (ldHLIdx : ∀ (u : Idx), motive (Form.ldHLIdx u))
    (ldIdxHL : ∀ (u : Idx), motive (Form.ldIdxHL u))
    (aluAtIdx : ∀ (u : AluOp) (v : Idx) (d : Byte), motive (Form.aluAtIdx u v d))
    (ldIdxAtSP : ∀ (u : Idx) (n : Byte), motive (Form.ldIdxAtSP u n))
    (rotAtIdx : ∀ (u : RotOp) (v : Idx) (d : Byte), motive (Form.rotAtIdx u v d))
    (bitAtIdx : ∀ (u : BitNo) (v : Idx) (d : Byte), motive (Form.bitAtIdx u v d))
    (resAtIdx : ∀ (u : BitNo) (v : Idx) (d : Byte), motive (Form.resAtIdx u v d))
    (setAtIdx : ∀ (u : BitNo) (v : Idx) (d : Byte), motive (Form.setAtIdx u v d))
    (boolIdx : ∀ (u : Idx), motive (Form.boolIdx u))
    (ldAtSPIdx : ∀ (u : Idx) (n : Byte), motive (Form.ldAtSPIdx u n))
    (andIdxDE : ∀ (u : Idx), motive (Form.andIdxDE u))
    (popIdx : ∀ (u : Idx), motive (Form.popIdx u))
    (exAtSPIdx : ∀ (u : Idx), motive (Form.exAtSPIdx u))
    (pushIdx : ∀ (u : Idx), motive (Form.pushIdx u))
    (jpIdx : ∀ (u : Idx), motive (Form.jpIdx u))
    (orIdxDE : ∀ (u : Idx), motive (Form.orIdxDE u))
    (ldSPIdx : ∀ (u : Idx), motive (Form.ldSPIdx u))
    (rrIdx : ∀ (u : Idx), motive (Form.rrIdx u))
    (ldAltDE : ∀ (u : Pair), motive (Form.ldAltDE u))
    (sbcHLSs : ∀ (u : Dd), motive (Form.sbcHLSs u))
    (ldAtMnSs : ∀ (u : Dd) (mn : Word), motive (Form.ldAtMnSs u mn))
    (ldAltBC : ∀ (u : Pair), motive (Form.ldAltBC u))
    (adcHLSs : ∀ (u : Dd), motive (Form.adcHLSs u))
    (ldDdAtMn : ∀ (u : Dd) (mn : Word), motive (Form.ldDdAtMn u mn))
    (nop : motive .nop)
    (ld_atBC_A : motive .ld_atBC_A)
    (rlca : motive .rlca)
    (ex_AF_AF' : motive .ex_AF_AF')
    (ld_A_atBC : motive .ld_A_atBC)
    (rrca : motive .rrca)
    (djnz_e : ∀ (k : Byte), motive (.djnz_e k))
    (ld_atDE_A : motive .ld_atDE_A)
    (rla : motive .rla)
    (jr_e : ∀ (k : Byte), motive (.jr_e k))
    (ld_A_atDE : motive .ld_A_atDE)
    (rra : motive .rra)
    (ld_atMn_HL : ∀ (mn : Word), motive (.ld_atMn_HL mn))
    (add_SP_d : ∀ (d : Byte), motive (.add_SP_d d))
    (ld_HL_atMn : ∀ (mn : Word), motive (.ld_HL_atMn mn))
    (cpl : motive .cpl)
    (ld_atMn_A : ∀ (mn : Word), motive (.ld_atMn_A mn))
    (inc_atHL : motive .inc_atHL)
    (dec_atHL : motive .dec_atHL)
    (ld_atHL_n : ∀ (n : Byte), motive (.ld_atHL_n n))
    (scf : motive .scf)
    (ld_A_atMn : ∀ (mn : Word), motive (.ld_A_atMn mn))
    (ccf : motive .ccf)
    (idet : motive .idet)
    (altd : motive .altd)
    (jp_mn : ∀ (mn : Word), motive (.jp_mn mn))
    (ld_HL_atSPn : ∀ (n : Byte), motive (.ld_HL_atSPn n))
    (ljp_x_mn : ∀ (mn : Word) (x : Byte), motive (.ljp_x_mn mn x))
    (ret : motive .ret)
    (bool_HL : motive .bool_HL)
    (call_mn : ∀ (mn : Word), motive (.call_mn mn))
    (lcall_x_mn : ∀ (mn : Word) (x : Byte), motive (.lcall_x_mn mn x))
    (ioi : motive .ioi)
    (ld_atSPn_HL : ∀ (n : Byte), motive (.ld_atSPn_HL n))
    (exx : motive .exx)
    (ioe : motive .ioe)
    (and_HL_DE : motive .and_HL_DE)
    (ex_DE'_HL : motive .ex_DE'_HL)
    (jp_atHL : motive .jp_atHL)
    (ex_DE_HL : motive .ex_DE_HL)
    (or_HL_DE : motive .or_HL_DE)
    (rl_DE : motive .rl_DE)
    (mul : motive .mul)
    (ld_SP_HL : motive .ld_SP_HL)
    (rr_DE : motive .rr_DE)
    (rr_HL : motive .rr_HL)
    (ld_HL_atHLd : ∀ (d : Byte), motive (.ld_HL_atHLd d))
    (ld_atHLd_HL : ∀ (d : Byte), motive (.ld_atHLd_HL d))
    (neg : motive .neg)
    (lret : motive .lret)
    (ipset_0 : motive .ipset_0)
    (ld_EIR_A : motive .ld_EIR_A)
    (reti : motive .reti)
    (ipset_2 : motive .ipset_2)
    (ld_IIR_A : motive .ld_IIR_A)
    (ex_atSP_HL : motive .ex_atSP_HL)
    (ipset_1 : motive .ipset_1)
    (ld_A_EIR : motive .ld_A_EIR)
    (ipres : motive .ipres)
    (ipset_3 : motive .ipset_3)
    (ld_A_IIR : motive .ld_A_IIR)
    (ldp_atHL_HL : motive .ldp_atHL_HL)
    (ldp_atMn_HL : ∀ (mn : Word), motive (.ldp_atMn_HL mn))
    (push_SU : motive .push_SU)
    (ld_XPC_A : motive .ld_XPC_A)
    (ldp_HL_atHL : motive .ldp_HL_atHL)
    (ldp_HL_atMn : ∀ (mn : Word), motive (.ldp_HL_atMn mn))
    (pop_SU : motive .pop_SU)
    (setusr : motive .setusr)
    (syscall : motive .syscall)
    (push_IP : motive .push_IP)
    (ld_A_XPC : motive .ld_A_XPC)
    (sures : motive .sures)
    (pop_IP : motive .pop_IP)
    (rdmode : motive .rdmode)
    (ldisr : motive .ldisr)
    (lddsr : motive .lddsr)
    (ldi : motive .ldi)
    (ldd : motive .ldd)
    (ldir : motive .ldir)
    (lddr : motive .lddr)
    (uma : motive .uma)
    (ums : motive .ums)
    (lsidr : motive .lsidr)
    (lsddr : motive .lsddr)
    (lsir : motive .lsir)
    (lsdr : motive .lsdr)
    (i : Instr) : motive i :=
  match i with
  | .nop => nop
  | .ld_BC_mn mn => ldDdMn .bc mn
  | .ld_atBC_A => ld_atBC_A
  | .inc_BC => incSs .bc
  | .inc_B => incR .b
  | .dec_B => decR .b
  | .ld_B_n n => ldRN .b n
  | .rlca => rlca
  | .ex_AF_AF' => ex_AF_AF'
  | .add_HL_BC => addHLSs .bc
  | .ld_A_atBC => ld_A_atBC
  | .dec_BC => decSs .bc
  | .inc_C => incR .c
  | .dec_C => decR .c
  | .ld_C_n n => ldRN .c n
  | .rrca => rrca
  | .djnz_e k => djnz_e k
  | .ld_DE_mn mn => ldDdMn .de mn
  | .ld_atDE_A => ld_atDE_A
  | .inc_DE => incSs .de
  | .inc_D => incR .d
  | .dec_D => decR .d
  | .ld_D_n n => ldRN .d n
  | .rla => rla
  | .jr_e k => jr_e k
  | .add_HL_DE => addHLSs .de
  | .ld_A_atDE => ld_A_atDE
  | .dec_DE => decSs .de
  | .inc_E => incR .e
  | .dec_E => decR .e
  | .ld_E_n n => ldRN .e n
  | .rra => rra
  | .jr_NZ_e k => jrCc .nz k
  | .ld_HL_mn mn => ldDdMn .hl mn
  | .ld_atMn_HL mn => ld_atMn_HL mn
  | .inc_HL => incSs .hl
  | .inc_H => incR .h
  | .dec_H => decR .h
  | .ld_H_n n => ldRN .h n
  | .add_SP_d d => add_SP_d d
  | .jr_Z_e k => jrCc .z k
  | .add_HL_HL => addHLSs .hl
  | .ld_HL_atMn mn => ld_HL_atMn mn
  | .dec_HL => decSs .hl
  | .inc_L => incR .l
  | .dec_L => decR .l
  | .ld_L_n n => ldRN .l n
  | .cpl => cpl
  | .jr_NC_e k => jrCc .nc k
  | .ld_SP_mn mn => ldDdMn .sp mn
  | .ld_atMn_A mn => ld_atMn_A mn
  | .inc_SP => incSs .sp
  | .inc_atHL => inc_atHL
  | .dec_atHL => dec_atHL
  | .ld_atHL_n n => ld_atHL_n n
  | .scf => scf
  | .jr_C_e k => jrCc .c k
  | .add_HL_SP => addHLSs .sp
  | .ld_A_atMn mn => ld_A_atMn mn
  | .dec_SP => decSs .sp
  | .inc_A => incR .a
  | .dec_A => decR .a
  | .ld_A_n n => ldRN .a n
  | .ccf => ccf
  | .ld_B_B => ldRG .b .b
  | .ld_B_C => ldRG .b .c
  | .ld_B_D => ldRG .b .d
  | .ld_B_E => ldRG .b .e
  | .ld_B_H => ldRG .b .h
  | .ld_B_L => ldRG .b .l
  | .ld_B_atHL => ldRAtHL .b
  | .ld_B_A => ldRG .b .a
  | .ld_C_B => ldRG .c .b
  | .ld_C_C => ldRG .c .c
  | .ld_C_D => ldRG .c .d
  | .ld_C_E => ldRG .c .e
  | .ld_C_H => ldRG .c .h
  | .ld_C_L => ldRG .c .l
  | .ld_C_atHL => ldRAtHL .c
  | .ld_C_A => ldRG .c .a
  | .ld_D_B => ldRG .d .b
  | .ld_D_C => ldRG .d .c
  | .ld_D_D => ldRG .d .d
  | .ld_D_E => ldRG .d .e
  | .ld_D_H => ldRG .d .h
  | .ld_D_L => ldRG .d .l
  | .ld_D_atHL => ldRAtHL .d
  | .ld_D_A => ldRG .d .a
  | .ld_E_B => ldRG .e .b
  | .ld_E_C => ldRG .e .c
  | .ld_E_D => ldRG .e .d
  | .ld_E_E => ldRG .e .e
  | .idet => idet
  | .ld_E_H => ldRG .e .h
  | .ld_E_L => ldRG .e .l
  | .ld_E_atHL => ldRAtHL .e
  | .ld_E_A => ldRG .e .a
  | .ld_H_B => ldRG .h .b
  | .ld_H_C => ldRG .h .c
  | .ld_H_D => ldRG .h .d
  | .ld_H_E => ldRG .h .e
  | .ld_H_H => ldRG .h .h
  | .ld_H_L => ldRG .h .l
  | .ld_H_atHL => ldRAtHL .h
  | .ld_H_A => ldRG .h .a
  | .ld_L_B => ldRG .l .b
  | .ld_L_C => ldRG .l .c
  | .ld_L_D => ldRG .l .d
  | .ld_L_E => ldRG .l .e
  | .ld_L_H => ldRG .l .h
  | .ld_L_L => ldRG .l .l
  | .ld_L_atHL => ldRAtHL .l
  | .ld_L_A => ldRG .l .a
  | .ld_atHL_B => ldAtHLR .b
  | .ld_atHL_C => ldAtHLR .c
  | .ld_atHL_D => ldAtHLR .d
  | .ld_atHL_E => ldAtHLR .e
  | .ld_atHL_H => ldAtHLR .h
  | .ld_atHL_L => ldAtHLR .l
  | .altd => altd
  | .ld_atHL_A => ldAtHLR .a
  | .ld_A_B => ldRG .a .b
  | .ld_A_C => ldRG .a .c
  | .ld_A_D => ldRG .a .d
  | .ld_A_E => ldRG .a .e
  | .ld_A_H => ldRG .a .h
  | .ld_A_L => ldRG .a .l
  | .ld_A_atHL => ldRAtHL .a
  | .ld_A_A => ldRG .a .a
  | .add_A_B => aluR .add .b
  | .add_A_C => aluR .add .c
  | .add_A_D => aluR .add .d
  | .add_A_E => aluR .add .e
  | .add_A_H => aluR .add .h
  | .add_A_L => aluR .add .l
  | .add_A_atHL => aluAtHL .add
  | .add_A_A => aluR .add .a
  | .adc_A_B => aluR .adc .b
  | .adc_A_C => aluR .adc .c
  | .adc_A_D => aluR .adc .d
  | .adc_A_E => aluR .adc .e
  | .adc_A_H => aluR .adc .h
  | .adc_A_L => aluR .adc .l
  | .adc_A_atHL => aluAtHL .adc
  | .adc_A_A => aluR .adc .a
  | .sub_B => aluR .sub .b
  | .sub_C => aluR .sub .c
  | .sub_D => aluR .sub .d
  | .sub_E => aluR .sub .e
  | .sub_H => aluR .sub .h
  | .sub_L => aluR .sub .l
  | .sub_atHL => aluAtHL .sub
  | .sub_A => aluR .sub .a
  | .sbc_A_B => aluR .sbc .b
  | .sbc_A_C => aluR .sbc .c
  | .sbc_A_D => aluR .sbc .d
  | .sbc_A_E => aluR .sbc .e
  | .sbc_A_H => aluR .sbc .h
  | .sbc_A_L => aluR .sbc .l
  | .sbc_A_atHL => aluAtHL .sbc
  | .sbc_A_A => aluR .sbc .a
  | .and_B => aluR .and .b
  | .and_C => aluR .and .c
  | .and_D => aluR .and .d
  | .and_E => aluR .and .e
  | .and_H => aluR .and .h
  | .and_L => aluR .and .l
  | .and_atHL => aluAtHL .and
  | .and_A => aluR .and .a
  | .xor_B => aluR .xor .b
  | .xor_C => aluR .xor .c
  | .xor_D => aluR .xor .d
  | .xor_E => aluR .xor .e
  | .xor_H => aluR .xor .h
  | .xor_L => aluR .xor .l
  | .xor_atHL => aluAtHL .xor
  | .xor_A => aluR .xor .a
  | .or_B => aluR .or .b
  | .or_C => aluR .or .c
  | .or_D => aluR .or .d
  | .or_E => aluR .or .e
  | .or_H => aluR .or .h
  | .or_L => aluR .or .l
  | .or_atHL => aluAtHL .or
  | .or_A => aluR .or .a
  | .cp_B => aluR .cp .b
  | .cp_C => aluR .cp .c
  | .cp_D => aluR .cp .d
  | .cp_E => aluR .cp .e
  | .cp_H => aluR .cp .h
  | .cp_L => aluR .cp .l
  | .cp_atHL => aluAtHL .cp
  | .cp_A => aluR .cp .a
  | .ret_NZ => retF .nz
  | .pop_BC => popZz .bc
  | .jp_NZ_mn mn => jpF .nz mn
  | .jp_mn mn => jp_mn mn
  | .ld_HL_atSPn n => ld_HL_atSPn n
  | .push_BC => pushZz .bc
  | .add_A_n n => aluN .add n
  | .ljp_x_mn mn x => ljp_x_mn mn x
  | .ret_Z => retF .z
  | .ret => ret
  | .jp_Z_mn mn => jpF .z mn
  | .bool_HL => bool_HL
  | .call_mn mn => call_mn mn
  | .adc_A_n n => aluN .adc n
  | .lcall_x_mn mn x => lcall_x_mn mn x
  | .ret_NC => retF .nc
  | .pop_DE => popZz .de
  | .jp_NC_mn mn => jpF .nc mn
  | .ioi => ioi
  | .ld_atSPn_HL n => ld_atSPn_HL n
  | .push_DE => pushZz .de
  | .sub_n n => aluN .sub n
  | .rst_10 => rst .v10
  | .ret_C => retF .c
  | .exx => exx
  | .jp_C_mn mn => jpF .c mn
  | .ioe => ioe
  | .and_HL_DE => and_HL_DE
  | .sbc_A_n n => aluN .sbc n
  | .rst_18 => rst .v18
  | .ret_LZ => retF .lz
  | .pop_HL => popZz .hl
  | .jp_LZ_mn mn => jpF .lz mn
  | .ex_DE'_HL => ex_DE'_HL
  | .ld_HL_atIXd d => ldHLAtIdx .ix d
  | .push_HL => pushZz .hl
  | .and_n n => aluN .and n
  | .rst_20 => rst .v20
  | .ret_LO => retF .lo
  | .jp_atHL => jp_atHL
  | .jp_LO_mn mn => jpF .lo mn
  | .ex_DE_HL => ex_DE_HL
  | .or_HL_DE => or_HL_DE
  | .xor_n n => aluN .xor n
  | .rst_28 => rst .v28
  | .ret_P => retF .p
  | .pop_AF => popZz .af
  | .jp_P_mn mn => jpF .p mn
  | .rl_DE => rl_DE
  | .ld_atIXd_HL d => ldAtIdxHL .ix d
  | .push_AF => pushZz .af
  | .or_n n => aluN .or n
  | .mul => mul
  | .ret_M => retF .m
  | .ld_SP_HL => ld_SP_HL
  | .jp_M_mn mn => jpF .m mn
  | .rr_DE => rr_DE
  | .rr_HL => rr_HL
  | .cp_n n => aluN .cp n
  | .rst_38 => rst .v38
  | .rlc_B => rotR .rlc .b
  | .rlc_C => rotR .rlc .c
  | .rlc_D => rotR .rlc .d
  | .rlc_E => rotR .rlc .e
  | .rlc_H => rotR .rlc .h
  | .rlc_L => rotR .rlc .l
  | .rlc_atHL => rotAtHL .rlc
  | .rlc_A => rotR .rlc .a
  | .rrc_B => rotR .rrc .b
  | .rrc_C => rotR .rrc .c
  | .rrc_D => rotR .rrc .d
  | .rrc_E => rotR .rrc .e
  | .rrc_H => rotR .rrc .h
  | .rrc_L => rotR .rrc .l
  | .rrc_atHL => rotAtHL .rrc
  | .rrc_A => rotR .rrc .a
  | .rl_B => rotR .rl .b
  | .rl_C => rotR .rl .c
  | .rl_D => rotR .rl .d
  | .rl_E => rotR .rl .e
  | .rl_H => rotR .rl .h
  | .rl_L => rotR .rl .l
  | .rl_atHL => rotAtHL .rl
  | .rl_A => rotR .rl .a
  | .rr_B => rotR .rr .b
  | .rr_C => rotR .rr .c
  | .rr_D => rotR .rr .d
  | .rr_E => rotR .rr .e
  | .rr_H => rotR .rr .h
  | .rr_L => rotR .rr .l
  | .rr_atHL => rotAtHL .rr
  | .rr_A => rotR .rr .a
  | .sla_B => rotR .sla .b
  | .sla_C => rotR .sla .c
  | .sla_D => rotR .sla .d
  | .sla_E => rotR .sla .e
  | .sla_H => rotR .sla .h
  | .sla_L => rotR .sla .l
  | .sla_atHL => rotAtHL .sla
  | .sla_A => rotR .sla .a
  | .sra_B => rotR .sra .b
  | .sra_C => rotR .sra .c
  | .sra_D => rotR .sra .d
  | .sra_E => rotR .sra .e
  | .sra_H => rotR .sra .h
  | .sra_L => rotR .sra .l
  | .sra_atHL => rotAtHL .sra
  | .sra_A => rotR .sra .a
  | .srl_B => rotR .srl .b
  | .srl_C => rotR .srl .c
  | .srl_D => rotR .srl .d
  | .srl_E => rotR .srl .e
  | .srl_H => rotR .srl .h
  | .srl_L => rotR .srl .l
  | .srl_atHL => rotAtHL .srl
  | .srl_A => rotR .srl .a
  | .bit_0_B => bitR .b0 .b
  | .bit_0_C => bitR .b0 .c
  | .bit_0_D => bitR .b0 .d
  | .bit_0_E => bitR .b0 .e
  | .bit_0_H => bitR .b0 .h
  | .bit_0_L => bitR .b0 .l
  | .bit_0_atHL => bitAtHL .b0
  | .bit_0_A => bitR .b0 .a
  | .bit_1_B => bitR .b1 .b
  | .bit_1_C => bitR .b1 .c
  | .bit_1_D => bitR .b1 .d
  | .bit_1_E => bitR .b1 .e
  | .bit_1_H => bitR .b1 .h
  | .bit_1_L => bitR .b1 .l
  | .bit_1_atHL => bitAtHL .b1
  | .bit_1_A => bitR .b1 .a
  | .bit_2_B => bitR .b2 .b
  | .bit_2_C => bitR .b2 .c
  | .bit_2_D => bitR .b2 .d
  | .bit_2_E => bitR .b2 .e
  | .bit_2_H => bitR .b2 .h
  | .bit_2_L => bitR .b2 .l
  | .bit_2_atHL => bitAtHL .b2
  | .bit_2_A => bitR .b2 .a
  | .bit_3_B => bitR .b3 .b
  | .bit_3_C => bitR .b3 .c
  | .bit_3_D => bitR .b3 .d
  | .bit_3_E => bitR .b3 .e
  | .bit_3_H => bitR .b3 .h
  | .bit_3_L => bitR .b3 .l
  | .bit_3_atHL => bitAtHL .b3
  | .bit_3_A => bitR .b3 .a
  | .bit_4_B => bitR .b4 .b
  | .bit_4_C => bitR .b4 .c
  | .bit_4_D => bitR .b4 .d
  | .bit_4_E => bitR .b4 .e
  | .bit_4_H => bitR .b4 .h
  | .bit_4_L => bitR .b4 .l
  | .bit_4_atHL => bitAtHL .b4
  | .bit_4_A => bitR .b4 .a
  | .bit_5_B => bitR .b5 .b
  | .bit_5_C => bitR .b5 .c
  | .bit_5_D => bitR .b5 .d
  | .bit_5_E => bitR .b5 .e
  | .bit_5_H => bitR .b5 .h
  | .bit_5_L => bitR .b5 .l
  | .bit_5_atHL => bitAtHL .b5
  | .bit_5_A => bitR .b5 .a
  | .bit_6_B => bitR .b6 .b
  | .bit_6_C => bitR .b6 .c
  | .bit_6_D => bitR .b6 .d
  | .bit_6_E => bitR .b6 .e
  | .bit_6_H => bitR .b6 .h
  | .bit_6_L => bitR .b6 .l
  | .bit_6_atHL => bitAtHL .b6
  | .bit_6_A => bitR .b6 .a
  | .bit_7_B => bitR .b7 .b
  | .bit_7_C => bitR .b7 .c
  | .bit_7_D => bitR .b7 .d
  | .bit_7_E => bitR .b7 .e
  | .bit_7_H => bitR .b7 .h
  | .bit_7_L => bitR .b7 .l
  | .bit_7_atHL => bitAtHL .b7
  | .bit_7_A => bitR .b7 .a
  | .res_0_B => resR .b0 .b
  | .res_0_C => resR .b0 .c
  | .res_0_D => resR .b0 .d
  | .res_0_E => resR .b0 .e
  | .res_0_H => resR .b0 .h
  | .res_0_L => resR .b0 .l
  | .res_0_atHL => resAtHL .b0
  | .res_0_A => resR .b0 .a
  | .res_1_B => resR .b1 .b
  | .res_1_C => resR .b1 .c
  | .res_1_D => resR .b1 .d
  | .res_1_E => resR .b1 .e
  | .res_1_H => resR .b1 .h
  | .res_1_L => resR .b1 .l
  | .res_1_atHL => resAtHL .b1
  | .res_1_A => resR .b1 .a
  | .res_2_B => resR .b2 .b
  | .res_2_C => resR .b2 .c
  | .res_2_D => resR .b2 .d
  | .res_2_E => resR .b2 .e
  | .res_2_H => resR .b2 .h
  | .res_2_L => resR .b2 .l
  | .res_2_atHL => resAtHL .b2
  | .res_2_A => resR .b2 .a
  | .res_3_B => resR .b3 .b
  | .res_3_C => resR .b3 .c
  | .res_3_D => resR .b3 .d
  | .res_3_E => resR .b3 .e
  | .res_3_H => resR .b3 .h
  | .res_3_L => resR .b3 .l
  | .res_3_atHL => resAtHL .b3
  | .res_3_A => resR .b3 .a
  | .res_4_B => resR .b4 .b
  | .res_4_C => resR .b4 .c
  | .res_4_D => resR .b4 .d
  | .res_4_E => resR .b4 .e
  | .res_4_H => resR .b4 .h
  | .res_4_L => resR .b4 .l
  | .res_4_atHL => resAtHL .b4
  | .res_4_A => resR .b4 .a
  | .res_5_B => resR .b5 .b
  | .res_5_C => resR .b5 .c
  | .res_5_D => resR .b5 .d
  | .res_5_E => resR .b5 .e
  | .res_5_H => resR .b5 .h
  | .res_5_L => resR .b5 .l
  | .res_5_atHL => resAtHL .b5
  | .res_5_A => resR .b5 .a
  | .res_6_B => resR .b6 .b
  | .res_6_C => resR .b6 .c
  | .res_6_D => resR .b6 .d
  | .res_6_E => resR .b6 .e
  | .res_6_H => resR .b6 .h
  | .res_6_L => resR .b6 .l
  | .res_6_atHL => resAtHL .b6
  | .res_6_A => resR .b6 .a
  | .res_7_B => resR .b7 .b
  | .res_7_C => resR .b7 .c
  | .res_7_D => resR .b7 .d
  | .res_7_E => resR .b7 .e
  | .res_7_H => resR .b7 .h
  | .res_7_L => resR .b7 .l
  | .res_7_atHL => resAtHL .b7
  | .res_7_A => resR .b7 .a
  | .set_0_B => setR .b0 .b
  | .set_0_C => setR .b0 .c
  | .set_0_D => setR .b0 .d
  | .set_0_E => setR .b0 .e
  | .set_0_H => setR .b0 .h
  | .set_0_L => setR .b0 .l
  | .set_0_atHL => setAtHL .b0
  | .set_0_A => setR .b0 .a
  | .set_1_B => setR .b1 .b
  | .set_1_C => setR .b1 .c
  | .set_1_D => setR .b1 .d
  | .set_1_E => setR .b1 .e
  | .set_1_H => setR .b1 .h
  | .set_1_L => setR .b1 .l
  | .set_1_atHL => setAtHL .b1
  | .set_1_A => setR .b1 .a
  | .set_2_B => setR .b2 .b
  | .set_2_C => setR .b2 .c
  | .set_2_D => setR .b2 .d
  | .set_2_E => setR .b2 .e
  | .set_2_H => setR .b2 .h
  | .set_2_L => setR .b2 .l
  | .set_2_atHL => setAtHL .b2
  | .set_2_A => setR .b2 .a
  | .set_3_B => setR .b3 .b
  | .set_3_C => setR .b3 .c
  | .set_3_D => setR .b3 .d
  | .set_3_E => setR .b3 .e
  | .set_3_H => setR .b3 .h
  | .set_3_L => setR .b3 .l
  | .set_3_atHL => setAtHL .b3
  | .set_3_A => setR .b3 .a
  | .set_4_B => setR .b4 .b
  | .set_4_C => setR .b4 .c
  | .set_4_D => setR .b4 .d
  | .set_4_E => setR .b4 .e
  | .set_4_H => setR .b4 .h
  | .set_4_L => setR .b4 .l
  | .set_4_atHL => setAtHL .b4
  | .set_4_A => setR .b4 .a
  | .set_5_B => setR .b5 .b
  | .set_5_C => setR .b5 .c
  | .set_5_D => setR .b5 .d
  | .set_5_E => setR .b5 .e
  | .set_5_H => setR .b5 .h
  | .set_5_L => setR .b5 .l
  | .set_5_atHL => setAtHL .b5
  | .set_5_A => setR .b5 .a
  | .set_6_B => setR .b6 .b
  | .set_6_C => setR .b6 .c
  | .set_6_D => setR .b6 .d
  | .set_6_E => setR .b6 .e
  | .set_6_H => setR .b6 .h
  | .set_6_L => setR .b6 .l
  | .set_6_atHL => setAtHL .b6
  | .set_6_A => setR .b6 .a
  | .set_7_B => setR .b7 .b
  | .set_7_C => setR .b7 .c
  | .set_7_D => setR .b7 .d
  | .set_7_E => setR .b7 .e
  | .set_7_H => setR .b7 .h
  | .set_7_L => setR .b7 .l
  | .set_7_atHL => setAtHL .b7
  | .set_7_A => setR .b7 .a
  | .add_IX_BC => addIdx .ix .bc
  | .add_IX_DE => addIdx .ix .de
  | .ld_IX_mn mn => ldIdxMn .ix mn
  | .ld_atMn_IX mn => ldAtMnIdx .ix mn
  | .inc_IX => incIdx .ix
  | .add_IX_IX => addIdx .ix .self
  | .ld_IX_atMn mn => ldIdxAtMn .ix mn
  | .dec_IX => decIdx .ix
  | .inc_atIXd d => incAtIdx .ix d
  | .dec_atIXd d => decAtIdx .ix d
  | .ld_atIXd_n d n => ldAtIdxN .ix d n
  | .add_IX_SP => addIdx .ix .sp
  | .ld_B_atIXd d => ldRAtIdx .ix .b d
  | .ld_C_atIXd d => ldRAtIdx .ix .c d
  | .ld_D_atIXd d => ldRAtIdx .ix .d d
  | .ld_E_atIXd d => ldRAtIdx .ix .e d
  | .ldp_atIX_HL => ldpAtIdxHL .ix
  | .ldp_atMn_IX mn => ldpAtMnIdx .ix mn
  | .ld_H_atIXd d => ldRAtIdx .ix .h d
  | .ldp_HL_atIX => ldpHLAtIdx .ix
  | .ldp_IX_atMn mn => ldpIdxAtMn .ix mn
  | .ld_L_atIXd d => ldRAtIdx .ix .l d
  | .ld_atIXd_B d => ldAtIdxR .ix .b d
  | .ld_atIXd_C d => ldAtIdxR .ix .c d
  | .ld_atIXd_D d => ldAtIdxR .ix .d d
  | .ld_atIXd_E d => ldAtIdxR .ix .e d
  | .ld_atIXd_H d => ldAtIdxR .ix .h d
  | .ld_atIXd_L d => ldAtIdxR .ix .l d
  | .ld_atIXd_A d => ldAtIdxR .ix .a d
  | .ld_HL_IX => ldHLIdx .ix
  | .ld_IX_HL => ldIdxHL .ix
  | .ld_A_atIXd d => ldRAtIdx .ix .a d
  | .add_A_atIXd d => aluAtIdx .add .ix d
  | .adc_A_atIXd d => aluAtIdx .adc .ix d
  | .sub_atIXd d => aluAtIdx .sub .ix d
  | .sbc_A_atIXd d => aluAtIdx .sbc .ix d
  | .and_atIXd d => aluAtIdx .and .ix d
  | .xor_atIXd d => aluAtIdx .xor .ix d
  | .or_atIXd d => aluAtIdx .or .ix d
  | .cp_atIXd d => aluAtIdx .cp .ix d
  | .ld_IX_atSPn n => ldIdxAtSP .ix n
  | .rlc_atIXd d => rotAtIdx .rlc .ix d
  | .rrc_atIXd d => rotAtIdx .rrc .ix d
  | .rl_atIXd d => rotAtIdx .rl .ix d
  | .rr_atIXd d => rotAtIdx .rr .ix d
  | .sla_atIXd d => rotAtIdx .sla .ix d
  | .sra_atIXd d => rotAtIdx .sra .ix d
  | .srl_atIXd d => rotAtIdx .srl .ix d
  | .bit_0_atIXd d => bitAtIdx .b0 .ix d
  | .bit_1_atIXd d => bitAtIdx .b1 .ix d
  | .bit_2_atIXd d => bitAtIdx .b2 .ix d
  | .bit_3_atIXd d => bitAtIdx .b3 .ix d
  | .bit_4_atIXd d => bitAtIdx .b4 .ix d
  | .bit_5_atIXd d => bitAtIdx .b5 .ix d
  | .bit_6_atIXd d => bitAtIdx .b6 .ix d
  | .bit_7_atIXd d => bitAtIdx .b7 .ix d
  | .res_0_atIXd d => resAtIdx .b0 .ix d
  | .res_1_atIXd d => resAtIdx .b1 .ix d
  | .res_2_atIXd d => resAtIdx .b2 .ix d
  | .res_3_atIXd d => resAtIdx .b3 .ix d
  | .res_4_atIXd d => resAtIdx .b4 .ix d
  | .res_5_atIXd d => resAtIdx .b5 .ix d
  | .res_6_atIXd d => resAtIdx .b6 .ix d
  | .res_7_atIXd d => resAtIdx .b7 .ix d
  | .set_0_atIXd d => setAtIdx .b0 .ix d
  | .set_1_atIXd d => setAtIdx .b1 .ix d
  | .set_2_atIXd d => setAtIdx .b2 .ix d
  | .set_3_atIXd d => setAtIdx .b3 .ix d
  | .set_4_atIXd d => setAtIdx .b4 .ix d
  | .set_5_atIXd d => setAtIdx .b5 .ix d
  | .set_6_atIXd d => setAtIdx .b6 .ix d
  | .set_7_atIXd d => setAtIdx .b7 .ix d
  | .bool_IX => boolIdx .ix
  | .ld_atSPn_IX n => ldAtSPIdx .ix n
  | .and_IX_DE => andIdxDE .ix
  | .pop_IX => popIdx .ix
  | .ex_atSP_IX => exAtSPIdx .ix
  | .ld_HL_atHLd d => ld_HL_atHLd d
  | .push_IX => pushIdx .ix
  | .jp_atIX => jpIdx .ix
  | .or_IX_DE => orIdxDE .ix
  | .ld_atHLd_HL d => ld_atHLd_HL d
  | .ld_SP_IX => ldSPIdx .ix
  | .rr_IX => rrIdx .ix
  | .ld_BC'_DE => ldAltDE .bc
  | .sbc_HL_BC => sbcHLSs .bc
  | .ld_atMn_BC mn => ldAtMnSs .bc mn
  | .neg => neg
  | .lret => lret
  | .ipset_0 => ipset_0
  | .ld_EIR_A => ld_EIR_A
  | .ld_BC'_BC => ldAltBC .bc
  | .adc_HL_BC => adcHLSs .bc
  | .ld_BC_atMn mn => ldDdAtMn .bc mn
  | .reti => reti
  | .ipset_2 => ipset_2
  | .ld_IIR_A => ld_IIR_A
  | .ld_DE'_DE => ldAltDE .de
  | .sbc_HL_DE => sbcHLSs .de
  | .ld_atMn_DE mn => ldAtMnSs .de mn
  | .ex_atSP_HL => ex_atSP_HL
  | .ipset_1 => ipset_1
  | .ld_A_EIR => ld_A_EIR
  | .ld_DE'_BC => ldAltBC .de
  | .adc_HL_DE => adcHLSs .de
  | .ld_DE_atMn mn => ldDdAtMn .de mn
  | .ipres => ipres
  | .ipset_3 => ipset_3
  | .ld_A_IIR => ld_A_IIR
  | .ld_HL'_DE => ldAltDE .hl
  | .sbc_HL_HL => sbcHLSs .hl
  | .ld_atMn_HL_ed mn => ldAtMnSs .hl mn
  | .ldp_atHL_HL => ldp_atHL_HL
  | .ldp_atMn_HL mn => ldp_atMn_HL mn
  | .push_SU => push_SU
  | .ld_XPC_A => ld_XPC_A
  | .ld_HL'_BC => ldAltBC .hl
  | .adc_HL_HL => adcHLSs .hl
  | .ld_HL_atMn_ed mn => ldDdAtMn .hl mn
  | .ldp_HL_atHL => ldp_HL_atHL
  | .ldp_HL_atMn mn => ldp_HL_atMn mn
  | .pop_SU => pop_SU
  | .setusr => setusr
  | .sbc_HL_SP => sbcHLSs .sp
  | .ld_atMn_SP mn => ldAtMnSs .sp mn
  | .syscall => syscall
  | .push_IP => push_IP
  | .ld_A_XPC => ld_A_XPC
  | .adc_HL_SP => adcHLSs .sp
  | .ld_SP_atMn mn => ldDdAtMn .sp mn
  | .sures => sures
  | .pop_IP => pop_IP
  | .rdmode => rdmode
  | .ldisr => ldisr
  | .lddsr => lddsr
  | .ldi => ldi
  | .ldd => ldd
  | .ldir => ldir
  | .lddr => lddr
  | .uma => uma
  | .ums => ums
  | .lsidr => lsidr
  | .lsddr => lsddr
  | .lsir => lsir
  | .lsdr => lsdr
  | .add_IY_BC => addIdx .iy .bc
  | .add_IY_DE => addIdx .iy .de
  | .ld_IY_mn mn => ldIdxMn .iy mn
  | .ld_atMn_IY mn => ldAtMnIdx .iy mn
  | .inc_IY => incIdx .iy
  | .add_IY_IY => addIdx .iy .self
  | .ld_IY_atMn mn => ldIdxAtMn .iy mn
  | .dec_IY => decIdx .iy
  | .inc_atIYd d => incAtIdx .iy d
  | .dec_atIYd d => decAtIdx .iy d
  | .ld_atIYd_n d n => ldAtIdxN .iy d n
  | .add_IY_SP => addIdx .iy .sp
  | .ld_B_atIYd d => ldRAtIdx .iy .b d
  | .ld_C_atIYd d => ldRAtIdx .iy .c d
  | .ld_D_atIYd d => ldRAtIdx .iy .d d
  | .ld_E_atIYd d => ldRAtIdx .iy .e d
  | .ldp_atIY_HL => ldpAtIdxHL .iy
  | .ldp_atMn_IY mn => ldpAtMnIdx .iy mn
  | .ld_H_atIYd d => ldRAtIdx .iy .h d
  | .ldp_HL_atIY => ldpHLAtIdx .iy
  | .ldp_IY_atMn mn => ldpIdxAtMn .iy mn
  | .ld_L_atIYd d => ldRAtIdx .iy .l d
  | .ld_atIYd_B d => ldAtIdxR .iy .b d
  | .ld_atIYd_C d => ldAtIdxR .iy .c d
  | .ld_atIYd_D d => ldAtIdxR .iy .d d
  | .ld_atIYd_E d => ldAtIdxR .iy .e d
  | .ld_atIYd_H d => ldAtIdxR .iy .h d
  | .ld_atIYd_L d => ldAtIdxR .iy .l d
  | .ld_atIYd_A d => ldAtIdxR .iy .a d
  | .ld_HL_IY => ldHLIdx .iy
  | .ld_IY_HL => ldIdxHL .iy
  | .ld_A_atIYd d => ldRAtIdx .iy .a d
  | .add_A_atIYd d => aluAtIdx .add .iy d
  | .adc_A_atIYd d => aluAtIdx .adc .iy d
  | .sub_atIYd d => aluAtIdx .sub .iy d
  | .sbc_A_atIYd d => aluAtIdx .sbc .iy d
  | .and_atIYd d => aluAtIdx .and .iy d
  | .xor_atIYd d => aluAtIdx .xor .iy d
  | .or_atIYd d => aluAtIdx .or .iy d
  | .cp_atIYd d => aluAtIdx .cp .iy d
  | .ld_IY_atSPn n => ldIdxAtSP .iy n
  | .rlc_atIYd d => rotAtIdx .rlc .iy d
  | .rrc_atIYd d => rotAtIdx .rrc .iy d
  | .rl_atIYd d => rotAtIdx .rl .iy d
  | .rr_atIYd d => rotAtIdx .rr .iy d
  | .sla_atIYd d => rotAtIdx .sla .iy d
  | .sra_atIYd d => rotAtIdx .sra .iy d
  | .srl_atIYd d => rotAtIdx .srl .iy d
  | .bit_0_atIYd d => bitAtIdx .b0 .iy d
  | .bit_1_atIYd d => bitAtIdx .b1 .iy d
  | .bit_2_atIYd d => bitAtIdx .b2 .iy d
  | .bit_3_atIYd d => bitAtIdx .b3 .iy d
  | .bit_4_atIYd d => bitAtIdx .b4 .iy d
  | .bit_5_atIYd d => bitAtIdx .b5 .iy d
  | .bit_6_atIYd d => bitAtIdx .b6 .iy d
  | .bit_7_atIYd d => bitAtIdx .b7 .iy d
  | .res_0_atIYd d => resAtIdx .b0 .iy d
  | .res_1_atIYd d => resAtIdx .b1 .iy d
  | .res_2_atIYd d => resAtIdx .b2 .iy d
  | .res_3_atIYd d => resAtIdx .b3 .iy d
  | .res_4_atIYd d => resAtIdx .b4 .iy d
  | .res_5_atIYd d => resAtIdx .b5 .iy d
  | .res_6_atIYd d => resAtIdx .b6 .iy d
  | .res_7_atIYd d => resAtIdx .b7 .iy d
  | .set_0_atIYd d => setAtIdx .b0 .iy d
  | .set_1_atIYd d => setAtIdx .b1 .iy d
  | .set_2_atIYd d => setAtIdx .b2 .iy d
  | .set_3_atIYd d => setAtIdx .b3 .iy d
  | .set_4_atIYd d => setAtIdx .b4 .iy d
  | .set_5_atIYd d => setAtIdx .b5 .iy d
  | .set_6_atIYd d => setAtIdx .b6 .iy d
  | .set_7_atIYd d => setAtIdx .b7 .iy d
  | .bool_IY => boolIdx .iy
  | .ld_atSPn_IY n => ldAtSPIdx .iy n
  | .and_IY_DE => andIdxDE .iy
  | .pop_IY => popIdx .iy
  | .ex_atSP_IY => exAtSPIdx .iy
  | .ld_HL_atIYd d => ldHLAtIdx .iy d
  | .push_IY => pushIdx .iy
  | .jp_atIY => jpIdx .iy
  | .or_IY_DE => orIdxDE .iy
  | .ld_atIYd_HL d => ldAtIdxHL .iy d
  | .ld_SP_IY => ldSPIdx .iy
  | .rr_IY => rrIdx .iy

end Sys2Proof
end

