-- ==== Sys2Proof/Laws/Forms.lean ====
section
/-! SUPPORT. The meaning of every instruction form: `exec` of what the form selects is the family's shared meaning. -/

namespace Sys2Proof.Machine

variable (s : State)

@[simp] theorem exec_ldRG (u : Reg8) (v : Reg8) :
    exec (Form.ldRG u v) s = ldRG u v s := by
  cases u <;> cases v <;> rfl

@[simp] theorem exec_ldRN (u : Reg8) (n : Byte) :
    exec (Form.ldRN u n) s = ldRN u n s := by
  cases u <;> rfl

@[simp] theorem exec_ldRAtHL (u : Reg8) :
    exec (Form.ldRAtHL u) s = ldRAtHL u s := by
  cases u <;> rfl

@[simp] theorem exec_ldRAtIdx (u : Idx) (v : Reg8) (d : Byte) :
    exec (Form.ldRAtIdx u v d) s = ldRAtIdx u v d s := by
  cases u <;> cases v <;> rfl

@[simp] theorem exec_ldAtHLR (u : Reg8) :
    exec (Form.ldAtHLR u) s = ldAtHLR u s := by
  cases u <;> rfl

@[simp] theorem exec_ldAtIdxR (u : Idx) (v : Reg8) (d : Byte) :
    exec (Form.ldAtIdxR u v d) s = ldAtIdxR u v d s := by
  cases u <;> cases v <;> rfl

@[simp] theorem exec_ldAtIdxN (u : Idx) (d : Byte) (n : Byte) :
    exec (Form.ldAtIdxN u d n) s = ldAtIdxN u d n s := by
  cases u <;> rfl

@[simp] theorem exec_ldDdMn (u : Dd) (mn : Word) :
    exec (Form.ldDdMn u mn) s = ldDdMn u mn s := by
  cases u <;> rfl

@[simp] theorem exec_ldIdxMn (u : Idx) (mn : Word) :
    exec (Form.ldIdxMn u mn) s = ldIdxMn u mn s := by
  cases u <;> rfl

@[simp] theorem exec_ldDdAtMn (u : Dd) (mn : Word) :
    exec (Form.ldDdAtMn u mn) s = ldDdAtMn u mn s := by
  cases u <;> rfl

@[simp] theorem exec_ldIdxAtMn (u : Idx) (mn : Word) :
    exec (Form.ldIdxAtMn u mn) s = ldIdxAtMn u mn s := by
  cases u <;> rfl

@[simp] theorem exec_ldAtMnSs (u : Dd) (mn : Word) :
    exec (Form.ldAtMnSs u mn) s = ldAtMnSs u mn s := by
  cases u <;> rfl

@[simp] theorem exec_ldAtMnIdx (u : Idx) (mn : Word) :
    exec (Form.ldAtMnIdx u mn) s = ldAtMnIdx u mn s := by
  cases u <;> rfl

@[simp] theorem exec_ldHLAtIdx (u : Idx) (d : Byte) :
    exec (Form.ldHLAtIdx u d) s = ldHLAtIdx u d s := by
  cases u <;> rfl

@[simp] theorem exec_ldAtIdxHL (u : Idx) (d : Byte) :
    exec (Form.ldAtIdxHL u d) s = ldAtIdxHL u d s := by
  cases u <;> rfl

@[simp] theorem exec_ldIdxAtSP (u : Idx) (n : Byte) :
    exec (Form.ldIdxAtSP u n) s = ldIdxAtSP u n s := by
  cases u <;> rfl

@[simp] theorem exec_ldAtSPIdx (u : Idx) (n : Byte) :
    exec (Form.ldAtSPIdx u n) s = ldAtSPIdx u n s := by
  cases u <;> rfl

@[simp] theorem exec_ldHLIdx (u : Idx) :
    exec (Form.ldHLIdx u) s = ldHLIdx u s := by
  cases u <;> rfl

@[simp] theorem exec_ldIdxHL (u : Idx) :
    exec (Form.ldIdxHL u) s = ldIdxHL u s := by
  cases u <;> rfl

@[simp] theorem exec_ldSPIdx (u : Idx) :
    exec (Form.ldSPIdx u) s = ldSPIdx u s := by
  cases u <;> rfl

@[simp] theorem exec_ldAltBC (u : Pair) :
    exec (Form.ldAltBC u) s = ldAltBC u s := by
  cases u <;> rfl

@[simp] theorem exec_ldAltDE (u : Pair) :
    exec (Form.ldAltDE u) s = ldAltDE u s := by
  cases u <;> rfl

@[simp] theorem exec_ldpAtIdxHL (u : Idx) :
    exec (Form.ldpAtIdxHL u) s = ldpAtIdxHL u s := by
  cases u <;> rfl

@[simp] theorem exec_ldpAtMnIdx (u : Idx) (mn : Word) :
    exec (Form.ldpAtMnIdx u mn) s = ldpAtMnIdx u mn s := by
  cases u <;> rfl

@[simp] theorem exec_ldpHLAtIdx (u : Idx) :
    exec (Form.ldpHLAtIdx u) s = ldpHLAtIdx u s := by
  cases u <;> rfl

@[simp] theorem exec_ldpIdxAtMn (u : Idx) (mn : Word) :
    exec (Form.ldpIdxAtMn u mn) s = ldpIdxAtMn u mn s := by
  cases u <;> rfl

@[simp] theorem exec_pushZz (u : Zz) :
    exec (Form.pushZz u) s = pushZz u s := by
  cases u <;> rfl

@[simp] theorem exec_pushIdx (u : Idx) :
    exec (Form.pushIdx u) s = pushIdx u s := by
  cases u <;> rfl

@[simp] theorem exec_popZz (u : Zz) :
    exec (Form.popZz u) s = popZz u s := by
  cases u <;> rfl

@[simp] theorem exec_popIdx (u : Idx) :
    exec (Form.popIdx u) s = popIdx u s := by
  cases u <;> rfl

@[simp] theorem exec_exAtSPIdx (u : Idx) :
    exec (Form.exAtSPIdx u) s = exAtSPIdx u s := by
  cases u <;> rfl

@[simp] theorem exec_aluR (u : AluOp) (v : Reg8) :
    exec (Form.aluR u v) s = aluR u v s := by
  cases u <;> cases v <;> rfl

@[simp] theorem exec_aluN (u : AluOp) (n : Byte) :
    exec (Form.aluN u n) s = aluN u n s := by
  cases u <;> rfl

@[simp] theorem exec_aluAtHL (u : AluOp) :
    exec (Form.aluAtHL u) s = aluAtHL u s := by
  cases u <;> rfl

@[simp] theorem exec_aluAtIdx (u : AluOp) (v : Idx) (d : Byte) :
    exec (Form.aluAtIdx u v d) s = aluAtIdx u v d s := by
  cases u <;> cases v <;> rfl

@[simp] theorem exec_incR (u : Reg8) :
    exec (Form.incR u) s = incR u s := by
  cases u <;> rfl

@[simp] theorem exec_incAtIdx (u : Idx) (d : Byte) :
    exec (Form.incAtIdx u d) s = incAtIdx u d s := by
  cases u <;> rfl

@[simp] theorem exec_decR (u : Reg8) :
    exec (Form.decR u) s = decR u s := by
  cases u <;> rfl

@[simp] theorem exec_decAtIdx (u : Idx) (d : Byte) :
    exec (Form.decAtIdx u d) s = decAtIdx u d s := by
  cases u <;> rfl

@[simp] theorem exec_addHLSs (u : Dd) :
    exec (Form.addHLSs u) s = addHLSs u s := by
  cases u <;> rfl

@[simp] theorem exec_addIdx (u : Idx) (v : Xx) :
    exec (Form.addIdx u v) s = addIdx u v s := by
  cases u <;> cases v <;> rfl

@[simp] theorem exec_adcHLSs (u : Dd) :
    exec (Form.adcHLSs u) s = adcHLSs u s := by
  cases u <;> rfl

@[simp] theorem exec_sbcHLSs (u : Dd) :
    exec (Form.sbcHLSs u) s = sbcHLSs u s := by
  cases u <;> rfl

@[simp] theorem exec_andIdxDE (u : Idx) :
    exec (Form.andIdxDE u) s = andIdxDE u s := by
  cases u <;> rfl

@[simp] theorem exec_orIdxDE (u : Idx) :
    exec (Form.orIdxDE u) s = orIdxDE u s := by
  cases u <;> rfl

@[simp] theorem exec_boolIdx (u : Idx) :
    exec (Form.boolIdx u) s = boolIdx u s := by
  cases u <;> rfl

@[simp] theorem exec_incSs (u : Dd) :
    exec (Form.incSs u) s = incSs u s := by
  cases u <;> rfl

@[simp] theorem exec_incIdx (u : Idx) :
    exec (Form.incIdx u) s = incIdx u s := by
  cases u <;> rfl

@[simp] theorem exec_decSs (u : Dd) :
    exec (Form.decSs u) s = decSs u s := by
  cases u <;> rfl

@[simp] theorem exec_decIdx (u : Idx) :
    exec (Form.decIdx u) s = decIdx u s := by
  cases u <;> rfl

@[simp] theorem exec_rotR (u : RotOp) (v : Reg8) :
    exec (Form.rotR u v) s = rotR u v s := by
  cases u <;> cases v <;> rfl

@[simp] theorem exec_rotAtHL (u : RotOp) :
    exec (Form.rotAtHL u) s = rotAtHL u s := by
  cases u <;> rfl

@[simp] theorem exec_rotAtIdx (u : RotOp) (v : Idx) (d : Byte) :
    exec (Form.rotAtIdx u v d) s = rotAtIdx u v d s := by
  cases u <;> cases v <;> rfl

@[simp] theorem exec_rrIdx (u : Idx) :
    exec (Form.rrIdx u) s = rrIdx u s := by
  cases u <;> rfl

@[simp] theorem exec_bitR (u : BitNo) (v : Reg8) :
    exec (Form.bitR u v) s = bitR u v s := by
  cases u <;> cases v <;> rfl

@[simp] theorem exec_bitAtHL (u : BitNo) :
    exec (Form.bitAtHL u) s = bitAtHL u s := by
  cases u <;> rfl

@[simp] theorem exec_bitAtIdx (u : BitNo) (v : Idx) (d : Byte) :
    exec (Form.bitAtIdx u v d) s = bitAtIdx u v d s := by
  cases u <;> cases v <;> rfl

@[simp] theorem exec_resR (u : BitNo) (v : Reg8) :
    exec (Form.resR u v) s = resR u v s := by
  cases u <;> cases v <;> rfl

@[simp] theorem exec_resAtHL (u : BitNo) :
    exec (Form.resAtHL u) s = resAtHL u s := by
  cases u <;> rfl

@[simp] theorem exec_resAtIdx (u : BitNo) (v : Idx) (d : Byte) :
    exec (Form.resAtIdx u v d) s = resAtIdx u v d s := by
  cases u <;> cases v <;> rfl

@[simp] theorem exec_setR (u : BitNo) (v : Reg8) :
    exec (Form.setR u v) s = setR u v s := by
  cases u <;> cases v <;> rfl

@[simp] theorem exec_setAtHL (u : BitNo) :
    exec (Form.setAtHL u) s = setAtHL u s := by
  cases u <;> rfl

@[simp] theorem exec_setAtIdx (u : BitNo) (v : Idx) (d : Byte) :
    exec (Form.setAtIdx u v d) s = setAtIdx u v d s := by
  cases u <;> cases v <;> rfl

@[simp] theorem exec_jpF (u : Cond) (mn : Word) :
    exec (Form.jpF u mn) s = jpF u mn s := by
  cases u <;> rfl

@[simp] theorem exec_jpIdx (u : Idx) :
    exec (Form.jpIdx u) s = jpIdx u s := by
  cases u <;> rfl

@[simp] theorem exec_jrCc (u : Cc) (k : Byte) :
    exec (Form.jrCc u k) s = jrCc u k s := by
  cases u <;> rfl

@[simp] theorem exec_retF (u : Cond) :
    exec (Form.retF u) s = retF u s := by
  cases u <;> rfl

@[simp] theorem exec_rst (u : Rst) :
    exec (Form.rst u) s = rst u s := by
  cases u <;> rfl

end Sys2Proof.Machine
end

