-- ==== Sys2Proof/Laws/State.lean ====
section
/-! SUPPORT. For every update of the state, what each field holds after it: one lemma per field per update. -/

namespace Sys2Proof.Machine

variable (s : State)

/-! ### `State.physWrite` -/

@[simp] theorem State.physWrite_main (pa : PhysAddr) (v : Byte) : (s.physWrite pa v).main = s.main := rfl
@[simp] theorem State.physWrite_alt (pa : PhysAddr) (v : Byte) : (s.physWrite pa v).alt = s.alt := rfl
@[simp] theorem State.physWrite_ix (pa : PhysAddr) (v : Byte) : (s.physWrite pa v).ix = s.ix := rfl
@[simp] theorem State.physWrite_iy (pa : PhysAddr) (v : Byte) : (s.physWrite pa v).iy = s.iy := rfl
@[simp] theorem State.physWrite_sp (pa : PhysAddr) (v : Byte) : (s.physWrite pa v).sp = s.sp := rfl
@[simp] theorem State.physWrite_pc (pa : PhysAddr) (v : Byte) : (s.physWrite pa v).pc = s.pc := rfl
@[simp] theorem State.physWrite_xpc (pa : PhysAddr) (v : Byte) : (s.physWrite pa v).xpc = s.xpc := rfl
@[simp] theorem State.physWrite_iir (pa : PhysAddr) (v : Byte) : (s.physWrite pa v).iir = s.iir := rfl
@[simp] theorem State.physWrite_eir (pa : PhysAddr) (v : Byte) : (s.physWrite pa v).eir = s.eir := rfl
@[simp] theorem State.physWrite_ip (pa : PhysAddr) (v : Byte) : (s.physWrite pa v).ip = s.ip := rfl
@[simp] theorem State.physWrite_su (pa : PhysAddr) (v : Byte) : (s.physWrite pa v).su = s.su := rfl
@[simp] theorem State.physWrite_smvPending (pa : PhysAddr) (v : Byte) : (s.physWrite pa v).smvPending = s.smvPending := rfl
@[simp] theorem State.physWrite_deferIrq (pa : PhysAddr) (v : Byte) : (s.physWrite pa v).deferIrq = s.deferIrq := rfl
@[simp] theorem State.physWrite_lastHadIoPrefix (pa : PhysAddr) (v : Byte) : (s.physWrite pa v).lastHadIoPrefix = s.lastHadIoPrefix := rfl
@[simp] theorem State.physWrite_ctx (pa : PhysAddr) (v : Byte) : (s.physWrite pa v).ctx = s.ctx := rfl
@[simp] theorem State.physWrite_platform (pa : PhysAddr) (v : Byte) : (s.physWrite pa v).platform = s.platform := rfl
@[simp] theorem State.physWrite_variant (pa : PhysAddr) (v : Byte) : (s.physWrite pa v).variant = s.variant := rfl
@[simp] theorem State.physWrite_smv (pa : PhysAddr) (v : Byte) : (s.physWrite pa v).smv = s.smv := rfl
@[simp] theorem State.physWrite_userRestriction (pa : PhysAddr) (v : Byte) : (s.physWrite pa v).userRestriction = s.userRestriction := rfl
@[simp] theorem State.physWrite_translation (pa : PhysAddr) (v : Byte) : (s.physWrite pa v).translation = s.translation := rfl
@[simp] theorem State.physWrite_mem (pa : PhysAddr) (v : Byte) : (s.physWrite pa v).mem = Memory.store pa.toNat v s.mem := rfl
@[simp] theorem State.physWrite_io (pa : PhysAddr) (v : Byte) : (s.physWrite pa v).io = s.io := rfl
@[simp] theorem State.physWrite_irqs (pa : PhysAddr) (v : Byte) : (s.physWrite pa v).irqs = s.irqs := rfl
@[simp] theorem State.physWrite_draws (pa : PhysAddr) (v : Byte) : (s.physWrite pa v).draws = s.draws := rfl

/-! ### `State.memWrite8` -/

@[simp] theorem State.memWrite8_main (a : Word) (v : Byte) : (s.memWrite8 a v).main = s.main := rfl
@[simp] theorem State.memWrite8_alt (a : Word) (v : Byte) : (s.memWrite8 a v).alt = s.alt := rfl
@[simp] theorem State.memWrite8_ix (a : Word) (v : Byte) : (s.memWrite8 a v).ix = s.ix := rfl
@[simp] theorem State.memWrite8_iy (a : Word) (v : Byte) : (s.memWrite8 a v).iy = s.iy := rfl
@[simp] theorem State.memWrite8_sp (a : Word) (v : Byte) : (s.memWrite8 a v).sp = s.sp := rfl
@[simp] theorem State.memWrite8_pc (a : Word) (v : Byte) : (s.memWrite8 a v).pc = s.pc := rfl
@[simp] theorem State.memWrite8_xpc (a : Word) (v : Byte) : (s.memWrite8 a v).xpc = s.xpc := rfl
@[simp] theorem State.memWrite8_iir (a : Word) (v : Byte) : (s.memWrite8 a v).iir = s.iir := rfl
@[simp] theorem State.memWrite8_eir (a : Word) (v : Byte) : (s.memWrite8 a v).eir = s.eir := rfl
@[simp] theorem State.memWrite8_ip (a : Word) (v : Byte) : (s.memWrite8 a v).ip = s.ip := rfl
@[simp] theorem State.memWrite8_su (a : Word) (v : Byte) : (s.memWrite8 a v).su = s.su := rfl
@[simp] theorem State.memWrite8_smvPending (a : Word) (v : Byte) : (s.memWrite8 a v).smvPending = s.smvPending := rfl
@[simp] theorem State.memWrite8_deferIrq (a : Word) (v : Byte) : (s.memWrite8 a v).deferIrq = s.deferIrq := rfl
@[simp] theorem State.memWrite8_lastHadIoPrefix (a : Word) (v : Byte) : (s.memWrite8 a v).lastHadIoPrefix = s.lastHadIoPrefix := rfl
@[simp] theorem State.memWrite8_ctx (a : Word) (v : Byte) : (s.memWrite8 a v).ctx = s.ctx := rfl
@[simp] theorem State.memWrite8_platform (a : Word) (v : Byte) : (s.memWrite8 a v).platform = s.platform := rfl
@[simp] theorem State.memWrite8_variant (a : Word) (v : Byte) : (s.memWrite8 a v).variant = s.variant := rfl
@[simp] theorem State.memWrite8_smv (a : Word) (v : Byte) : (s.memWrite8 a v).smv = s.smv := rfl
@[simp] theorem State.memWrite8_userRestriction (a : Word) (v : Byte) : (s.memWrite8 a v).userRestriction = s.userRestriction := rfl
@[simp] theorem State.memWrite8_translation (a : Word) (v : Byte) : (s.memWrite8 a v).translation = s.translation := rfl
@[simp] theorem State.memWrite8_mem (a : Word) (v : Byte) : (s.memWrite8 a v).mem = Memory.store (s.translate a).toNat v s.mem := rfl
@[simp] theorem State.memWrite8_io (a : Word) (v : Byte) : (s.memWrite8 a v).io = s.io := rfl
@[simp] theorem State.memWrite8_irqs (a : Word) (v : Byte) : (s.memWrite8 a v).irqs = s.irqs := rfl
@[simp] theorem State.memWrite8_draws (a : Word) (v : Byte) : (s.memWrite8 a v).draws = s.draws := rfl

/-! ### `State.updDest` -/

@[simp] theorem State.updDest_main (f : Bank → Bank) : (s.updDest f).main = if s.ctx.altd then s.main else f s.main := rfl
@[simp] theorem State.updDest_alt (f : Bank → Bank) : (s.updDest f).alt = if s.ctx.altd then f s.alt else s.alt := rfl
@[simp] theorem State.updDest_ix (f : Bank → Bank) : (s.updDest f).ix = s.ix := rfl
@[simp] theorem State.updDest_iy (f : Bank → Bank) : (s.updDest f).iy = s.iy := rfl
@[simp] theorem State.updDest_sp (f : Bank → Bank) : (s.updDest f).sp = s.sp := rfl
@[simp] theorem State.updDest_pc (f : Bank → Bank) : (s.updDest f).pc = s.pc := rfl
@[simp] theorem State.updDest_xpc (f : Bank → Bank) : (s.updDest f).xpc = s.xpc := rfl
@[simp] theorem State.updDest_iir (f : Bank → Bank) : (s.updDest f).iir = s.iir := rfl
@[simp] theorem State.updDest_eir (f : Bank → Bank) : (s.updDest f).eir = s.eir := rfl
@[simp] theorem State.updDest_ip (f : Bank → Bank) : (s.updDest f).ip = s.ip := rfl
@[simp] theorem State.updDest_su (f : Bank → Bank) : (s.updDest f).su = s.su := rfl
@[simp] theorem State.updDest_smvPending (f : Bank → Bank) : (s.updDest f).smvPending = s.smvPending := rfl
@[simp] theorem State.updDest_deferIrq (f : Bank → Bank) : (s.updDest f).deferIrq = s.deferIrq := rfl
@[simp] theorem State.updDest_lastHadIoPrefix (f : Bank → Bank) : (s.updDest f).lastHadIoPrefix = s.lastHadIoPrefix := rfl
@[simp] theorem State.updDest_ctx (f : Bank → Bank) : (s.updDest f).ctx = s.ctx := rfl
@[simp] theorem State.updDest_platform (f : Bank → Bank) : (s.updDest f).platform = s.platform := rfl
@[simp] theorem State.updDest_variant (f : Bank → Bank) : (s.updDest f).variant = s.variant := rfl
@[simp] theorem State.updDest_smv (f : Bank → Bank) : (s.updDest f).smv = s.smv := rfl
@[simp] theorem State.updDest_userRestriction (f : Bank → Bank) : (s.updDest f).userRestriction = s.userRestriction := rfl
@[simp] theorem State.updDest_translation (f : Bank → Bank) : (s.updDest f).translation = s.translation := rfl
@[simp] theorem State.updDest_mem (f : Bank → Bank) : (s.updDest f).mem = s.mem := rfl
@[simp] theorem State.updDest_io (f : Bank → Bank) : (s.updDest f).io = s.io := rfl
@[simp] theorem State.updDest_irqs (f : Bank → Bank) : (s.updDest f).irqs = s.irqs := rfl
@[simp] theorem State.updDest_draws (f : Bank → Bank) : (s.updDest f).draws = s.draws := rfl

/-! ### `State.dst8` -/

@[simp] theorem State.dst8_main (r : Reg8) (v : Byte) : (s.dst8 r v).main = if s.ctx.altd then s.main else s.main.set r v := rfl
@[simp] theorem State.dst8_alt (r : Reg8) (v : Byte) : (s.dst8 r v).alt = if s.ctx.altd then s.alt.set r v else s.alt := rfl
@[simp] theorem State.dst8_ix (r : Reg8) (v : Byte) : (s.dst8 r v).ix = s.ix := rfl
@[simp] theorem State.dst8_iy (r : Reg8) (v : Byte) : (s.dst8 r v).iy = s.iy := rfl
@[simp] theorem State.dst8_sp (r : Reg8) (v : Byte) : (s.dst8 r v).sp = s.sp := rfl
@[simp] theorem State.dst8_pc (r : Reg8) (v : Byte) : (s.dst8 r v).pc = s.pc := rfl
@[simp] theorem State.dst8_xpc (r : Reg8) (v : Byte) : (s.dst8 r v).xpc = s.xpc := rfl
@[simp] theorem State.dst8_iir (r : Reg8) (v : Byte) : (s.dst8 r v).iir = s.iir := rfl
@[simp] theorem State.dst8_eir (r : Reg8) (v : Byte) : (s.dst8 r v).eir = s.eir := rfl
@[simp] theorem State.dst8_ip (r : Reg8) (v : Byte) : (s.dst8 r v).ip = s.ip := rfl
@[simp] theorem State.dst8_su (r : Reg8) (v : Byte) : (s.dst8 r v).su = s.su := rfl
@[simp] theorem State.dst8_smvPending (r : Reg8) (v : Byte) : (s.dst8 r v).smvPending = s.smvPending := rfl
@[simp] theorem State.dst8_deferIrq (r : Reg8) (v : Byte) : (s.dst8 r v).deferIrq = s.deferIrq := rfl
@[simp] theorem State.dst8_lastHadIoPrefix (r : Reg8) (v : Byte) : (s.dst8 r v).lastHadIoPrefix = s.lastHadIoPrefix := rfl
@[simp] theorem State.dst8_ctx (r : Reg8) (v : Byte) : (s.dst8 r v).ctx = s.ctx := rfl
@[simp] theorem State.dst8_platform (r : Reg8) (v : Byte) : (s.dst8 r v).platform = s.platform := rfl
@[simp] theorem State.dst8_variant (r : Reg8) (v : Byte) : (s.dst8 r v).variant = s.variant := rfl
@[simp] theorem State.dst8_smv (r : Reg8) (v : Byte) : (s.dst8 r v).smv = s.smv := rfl
@[simp] theorem State.dst8_userRestriction (r : Reg8) (v : Byte) : (s.dst8 r v).userRestriction = s.userRestriction := rfl
@[simp] theorem State.dst8_translation (r : Reg8) (v : Byte) : (s.dst8 r v).translation = s.translation := rfl
@[simp] theorem State.dst8_mem (r : Reg8) (v : Byte) : (s.dst8 r v).mem = s.mem := rfl
@[simp] theorem State.dst8_io (r : Reg8) (v : Byte) : (s.dst8 r v).io = s.io := rfl
@[simp] theorem State.dst8_irqs (r : Reg8) (v : Byte) : (s.dst8 r v).irqs = s.irqs := rfl
@[simp] theorem State.dst8_draws (r : Reg8) (v : Byte) : (s.dst8 r v).draws = s.draws := rfl

/-! ### `State.dst16` -/

@[simp] theorem State.dst16_main (p : Pair) (v : Word) : (s.dst16 p v).main = if s.ctx.altd then s.main else s.main.setPair p v := rfl
@[simp] theorem State.dst16_alt (p : Pair) (v : Word) : (s.dst16 p v).alt = if s.ctx.altd then s.alt.setPair p v else s.alt := rfl
@[simp] theorem State.dst16_ix (p : Pair) (v : Word) : (s.dst16 p v).ix = s.ix := rfl
@[simp] theorem State.dst16_iy (p : Pair) (v : Word) : (s.dst16 p v).iy = s.iy := rfl
@[simp] theorem State.dst16_sp (p : Pair) (v : Word) : (s.dst16 p v).sp = s.sp := rfl
@[simp] theorem State.dst16_pc (p : Pair) (v : Word) : (s.dst16 p v).pc = s.pc := rfl
@[simp] theorem State.dst16_xpc (p : Pair) (v : Word) : (s.dst16 p v).xpc = s.xpc := rfl
@[simp] theorem State.dst16_iir (p : Pair) (v : Word) : (s.dst16 p v).iir = s.iir := rfl
@[simp] theorem State.dst16_eir (p : Pair) (v : Word) : (s.dst16 p v).eir = s.eir := rfl
@[simp] theorem State.dst16_ip (p : Pair) (v : Word) : (s.dst16 p v).ip = s.ip := rfl
@[simp] theorem State.dst16_su (p : Pair) (v : Word) : (s.dst16 p v).su = s.su := rfl
@[simp] theorem State.dst16_smvPending (p : Pair) (v : Word) : (s.dst16 p v).smvPending = s.smvPending := rfl
@[simp] theorem State.dst16_deferIrq (p : Pair) (v : Word) : (s.dst16 p v).deferIrq = s.deferIrq := rfl
@[simp] theorem State.dst16_lastHadIoPrefix (p : Pair) (v : Word) : (s.dst16 p v).lastHadIoPrefix = s.lastHadIoPrefix := rfl
@[simp] theorem State.dst16_ctx (p : Pair) (v : Word) : (s.dst16 p v).ctx = s.ctx := rfl
@[simp] theorem State.dst16_platform (p : Pair) (v : Word) : (s.dst16 p v).platform = s.platform := rfl
@[simp] theorem State.dst16_variant (p : Pair) (v : Word) : (s.dst16 p v).variant = s.variant := rfl
@[simp] theorem State.dst16_smv (p : Pair) (v : Word) : (s.dst16 p v).smv = s.smv := rfl
@[simp] theorem State.dst16_userRestriction (p : Pair) (v : Word) : (s.dst16 p v).userRestriction = s.userRestriction := rfl
@[simp] theorem State.dst16_translation (p : Pair) (v : Word) : (s.dst16 p v).translation = s.translation := rfl
@[simp] theorem State.dst16_mem (p : Pair) (v : Word) : (s.dst16 p v).mem = s.mem := rfl
@[simp] theorem State.dst16_io (p : Pair) (v : Word) : (s.dst16 p v).io = s.io := rfl
@[simp] theorem State.dst16_irqs (p : Pair) (v : Word) : (s.dst16 p v).irqs = s.irqs := rfl
@[simp] theorem State.dst16_draws (p : Pair) (v : Word) : (s.dst16 p v).draws = s.draws := rfl

/-! ### `State.setMainPair` -/

@[simp] theorem State.setMainPair_main (p : Pair) (v : Word) : (s.setMainPair p v).main = s.main.setPair p v := rfl
@[simp] theorem State.setMainPair_alt (p : Pair) (v : Word) : (s.setMainPair p v).alt = s.alt := rfl
@[simp] theorem State.setMainPair_ix (p : Pair) (v : Word) : (s.setMainPair p v).ix = s.ix := rfl
@[simp] theorem State.setMainPair_iy (p : Pair) (v : Word) : (s.setMainPair p v).iy = s.iy := rfl
@[simp] theorem State.setMainPair_sp (p : Pair) (v : Word) : (s.setMainPair p v).sp = s.sp := rfl
@[simp] theorem State.setMainPair_pc (p : Pair) (v : Word) : (s.setMainPair p v).pc = s.pc := rfl
@[simp] theorem State.setMainPair_xpc (p : Pair) (v : Word) : (s.setMainPair p v).xpc = s.xpc := rfl
@[simp] theorem State.setMainPair_iir (p : Pair) (v : Word) : (s.setMainPair p v).iir = s.iir := rfl
@[simp] theorem State.setMainPair_eir (p : Pair) (v : Word) : (s.setMainPair p v).eir = s.eir := rfl
@[simp] theorem State.setMainPair_ip (p : Pair) (v : Word) : (s.setMainPair p v).ip = s.ip := rfl
@[simp] theorem State.setMainPair_su (p : Pair) (v : Word) : (s.setMainPair p v).su = s.su := rfl
@[simp] theorem State.setMainPair_smvPending (p : Pair) (v : Word) : (s.setMainPair p v).smvPending = s.smvPending := rfl
@[simp] theorem State.setMainPair_deferIrq (p : Pair) (v : Word) : (s.setMainPair p v).deferIrq = s.deferIrq := rfl
@[simp] theorem State.setMainPair_lastHadIoPrefix (p : Pair) (v : Word) : (s.setMainPair p v).lastHadIoPrefix = s.lastHadIoPrefix := rfl
@[simp] theorem State.setMainPair_ctx (p : Pair) (v : Word) : (s.setMainPair p v).ctx = s.ctx := rfl
@[simp] theorem State.setMainPair_platform (p : Pair) (v : Word) : (s.setMainPair p v).platform = s.platform := rfl
@[simp] theorem State.setMainPair_variant (p : Pair) (v : Word) : (s.setMainPair p v).variant = s.variant := rfl
@[simp] theorem State.setMainPair_smv (p : Pair) (v : Word) : (s.setMainPair p v).smv = s.smv := rfl
@[simp] theorem State.setMainPair_userRestriction (p : Pair) (v : Word) : (s.setMainPair p v).userRestriction = s.userRestriction := rfl
@[simp] theorem State.setMainPair_translation (p : Pair) (v : Word) : (s.setMainPair p v).translation = s.translation := rfl
@[simp] theorem State.setMainPair_mem (p : Pair) (v : Word) : (s.setMainPair p v).mem = s.mem := rfl
@[simp] theorem State.setMainPair_io (p : Pair) (v : Word) : (s.setMainPair p v).io = s.io := rfl
@[simp] theorem State.setMainPair_irqs (p : Pair) (v : Word) : (s.setMainPair p v).irqs = s.irqs := rfl
@[simp] theorem State.setMainPair_draws (p : Pair) (v : Word) : (s.setMainPair p v).draws = s.draws := rfl

/-! ### `State.setIdx` -/

@[simp] theorem State.setIdx_main (x : Idx) (v : Word) : (s.setIdx x v).main = s.main := rfl
@[simp] theorem State.setIdx_alt (x : Idx) (v : Word) : (s.setIdx x v).alt = s.alt := rfl
@[simp] theorem State.setIdx_ix (x : Idx) (v : Word) : (s.setIdx x v).ix = if x = .ix then v else s.ix := rfl
@[simp] theorem State.setIdx_iy (x : Idx) (v : Word) : (s.setIdx x v).iy = if x = .iy then v else s.iy := rfl
@[simp] theorem State.setIdx_sp (x : Idx) (v : Word) : (s.setIdx x v).sp = s.sp := rfl
@[simp] theorem State.setIdx_pc (x : Idx) (v : Word) : (s.setIdx x v).pc = s.pc := rfl
@[simp] theorem State.setIdx_xpc (x : Idx) (v : Word) : (s.setIdx x v).xpc = s.xpc := rfl
@[simp] theorem State.setIdx_iir (x : Idx) (v : Word) : (s.setIdx x v).iir = s.iir := rfl
@[simp] theorem State.setIdx_eir (x : Idx) (v : Word) : (s.setIdx x v).eir = s.eir := rfl
@[simp] theorem State.setIdx_ip (x : Idx) (v : Word) : (s.setIdx x v).ip = s.ip := rfl
@[simp] theorem State.setIdx_su (x : Idx) (v : Word) : (s.setIdx x v).su = s.su := rfl
@[simp] theorem State.setIdx_smvPending (x : Idx) (v : Word) : (s.setIdx x v).smvPending = s.smvPending := rfl
@[simp] theorem State.setIdx_deferIrq (x : Idx) (v : Word) : (s.setIdx x v).deferIrq = s.deferIrq := rfl
@[simp] theorem State.setIdx_lastHadIoPrefix (x : Idx) (v : Word) : (s.setIdx x v).lastHadIoPrefix = s.lastHadIoPrefix := rfl
@[simp] theorem State.setIdx_ctx (x : Idx) (v : Word) : (s.setIdx x v).ctx = s.ctx := rfl
@[simp] theorem State.setIdx_platform (x : Idx) (v : Word) : (s.setIdx x v).platform = s.platform := rfl
@[simp] theorem State.setIdx_variant (x : Idx) (v : Word) : (s.setIdx x v).variant = s.variant := rfl
@[simp] theorem State.setIdx_smv (x : Idx) (v : Word) : (s.setIdx x v).smv = s.smv := rfl
@[simp] theorem State.setIdx_userRestriction (x : Idx) (v : Word) : (s.setIdx x v).userRestriction = s.userRestriction := rfl
@[simp] theorem State.setIdx_translation (x : Idx) (v : Word) : (s.setIdx x v).translation = s.translation := rfl
@[simp] theorem State.setIdx_mem (x : Idx) (v : Word) : (s.setIdx x v).mem = s.mem := rfl
@[simp] theorem State.setIdx_io (x : Idx) (v : Word) : (s.setIdx x v).io = s.io := rfl
@[simp] theorem State.setIdx_irqs (x : Idx) (v : Word) : (s.setIdx x v).irqs = s.irqs := rfl
@[simp] theorem State.setIdx_draws (x : Idx) (v : Word) : (s.setIdx x v).draws = s.draws := rfl

/-! ### `State.setFlags` -/

@[simp] theorem State.setFlags_main (w : FlagUpd) : (s.setFlags w).main = if s.ctx.altd then s.main else s.main.updFlags w (Config.flagBits s.draws) := rfl
@[simp] theorem State.setFlags_alt (w : FlagUpd) : (s.setFlags w).alt = if s.ctx.altd then s.alt.updFlags w (Config.flagBits s.draws) else s.alt := rfl
@[simp] theorem State.setFlags_ix (w : FlagUpd) : (s.setFlags w).ix = s.ix := rfl
@[simp] theorem State.setFlags_iy (w : FlagUpd) : (s.setFlags w).iy = s.iy := rfl
@[simp] theorem State.setFlags_sp (w : FlagUpd) : (s.setFlags w).sp = s.sp := rfl
@[simp] theorem State.setFlags_pc (w : FlagUpd) : (s.setFlags w).pc = s.pc := rfl
@[simp] theorem State.setFlags_xpc (w : FlagUpd) : (s.setFlags w).xpc = s.xpc := rfl
@[simp] theorem State.setFlags_iir (w : FlagUpd) : (s.setFlags w).iir = s.iir := rfl
@[simp] theorem State.setFlags_eir (w : FlagUpd) : (s.setFlags w).eir = s.eir := rfl
@[simp] theorem State.setFlags_ip (w : FlagUpd) : (s.setFlags w).ip = s.ip := rfl
@[simp] theorem State.setFlags_su (w : FlagUpd) : (s.setFlags w).su = s.su := rfl
@[simp] theorem State.setFlags_smvPending (w : FlagUpd) : (s.setFlags w).smvPending = s.smvPending := rfl
@[simp] theorem State.setFlags_deferIrq (w : FlagUpd) : (s.setFlags w).deferIrq = s.deferIrq := rfl
@[simp] theorem State.setFlags_lastHadIoPrefix (w : FlagUpd) : (s.setFlags w).lastHadIoPrefix = s.lastHadIoPrefix := rfl
@[simp] theorem State.setFlags_ctx (w : FlagUpd) : (s.setFlags w).ctx = s.ctx := rfl
@[simp] theorem State.setFlags_platform (w : FlagUpd) : (s.setFlags w).platform = s.platform := rfl
@[simp] theorem State.setFlags_variant (w : FlagUpd) : (s.setFlags w).variant = s.variant := rfl
@[simp] theorem State.setFlags_smv (w : FlagUpd) : (s.setFlags w).smv = s.smv := rfl
@[simp] theorem State.setFlags_userRestriction (w : FlagUpd) : (s.setFlags w).userRestriction = s.userRestriction := rfl
@[simp] theorem State.setFlags_translation (w : FlagUpd) : (s.setFlags w).translation = s.translation := rfl
@[simp] theorem State.setFlags_mem (w : FlagUpd) : (s.setFlags w).mem = s.mem := rfl
@[simp] theorem State.setFlags_io (w : FlagUpd) : (s.setFlags w).io = s.io := rfl
@[simp] theorem State.setFlags_irqs (w : FlagUpd) : (s.setFlags w).irqs = s.irqs := rfl
@[simp] theorem State.setFlags_draws (w : FlagUpd) : (s.setFlags w).draws = s.draws + 1 := rfl

/-! ### `State.setMainFlags` -/

@[simp] theorem State.setMainFlags_main (w : FlagUpd) : (s.setMainFlags w).main = s.main.updFlags w (Config.flagBits s.draws) := rfl
@[simp] theorem State.setMainFlags_alt (w : FlagUpd) : (s.setMainFlags w).alt = s.alt := rfl
@[simp] theorem State.setMainFlags_ix (w : FlagUpd) : (s.setMainFlags w).ix = s.ix := rfl
@[simp] theorem State.setMainFlags_iy (w : FlagUpd) : (s.setMainFlags w).iy = s.iy := rfl
@[simp] theorem State.setMainFlags_sp (w : FlagUpd) : (s.setMainFlags w).sp = s.sp := rfl
@[simp] theorem State.setMainFlags_pc (w : FlagUpd) : (s.setMainFlags w).pc = s.pc := rfl
@[simp] theorem State.setMainFlags_xpc (w : FlagUpd) : (s.setMainFlags w).xpc = s.xpc := rfl
@[simp] theorem State.setMainFlags_iir (w : FlagUpd) : (s.setMainFlags w).iir = s.iir := rfl
@[simp] theorem State.setMainFlags_eir (w : FlagUpd) : (s.setMainFlags w).eir = s.eir := rfl
@[simp] theorem State.setMainFlags_ip (w : FlagUpd) : (s.setMainFlags w).ip = s.ip := rfl
@[simp] theorem State.setMainFlags_su (w : FlagUpd) : (s.setMainFlags w).su = s.su := rfl
@[simp] theorem State.setMainFlags_smvPending (w : FlagUpd) : (s.setMainFlags w).smvPending = s.smvPending := rfl
@[simp] theorem State.setMainFlags_deferIrq (w : FlagUpd) : (s.setMainFlags w).deferIrq = s.deferIrq := rfl
@[simp] theorem State.setMainFlags_lastHadIoPrefix (w : FlagUpd) : (s.setMainFlags w).lastHadIoPrefix = s.lastHadIoPrefix := rfl
@[simp] theorem State.setMainFlags_ctx (w : FlagUpd) : (s.setMainFlags w).ctx = s.ctx := rfl
@[simp] theorem State.setMainFlags_platform (w : FlagUpd) : (s.setMainFlags w).platform = s.platform := rfl
@[simp] theorem State.setMainFlags_variant (w : FlagUpd) : (s.setMainFlags w).variant = s.variant := rfl
@[simp] theorem State.setMainFlags_smv (w : FlagUpd) : (s.setMainFlags w).smv = s.smv := rfl
@[simp] theorem State.setMainFlags_userRestriction (w : FlagUpd) : (s.setMainFlags w).userRestriction = s.userRestriction := rfl
@[simp] theorem State.setMainFlags_translation (w : FlagUpd) : (s.setMainFlags w).translation = s.translation := rfl
@[simp] theorem State.setMainFlags_mem (w : FlagUpd) : (s.setMainFlags w).mem = s.mem := rfl
@[simp] theorem State.setMainFlags_io (w : FlagUpd) : (s.setMainFlags w).io = s.io := rfl
@[simp] theorem State.setMainFlags_irqs (w : FlagUpd) : (s.setMainFlags w).irqs = s.irqs := rfl
@[simp] theorem State.setMainFlags_draws (w : FlagUpd) : (s.setMainFlags w).draws = s.draws + 1 := rfl

/-! ### `State.push8` -/

@[simp] theorem State.push8_main (v : Byte) : (s.push8 v).main = s.main := rfl
@[simp] theorem State.push8_alt (v : Byte) : (s.push8 v).alt = s.alt := rfl
@[simp] theorem State.push8_ix (v : Byte) : (s.push8 v).ix = s.ix := rfl
@[simp] theorem State.push8_iy (v : Byte) : (s.push8 v).iy = s.iy := rfl
@[simp] theorem State.push8_sp (v : Byte) : (s.push8 v).sp = s.sp - 1 := rfl
@[simp] theorem State.push8_pc (v : Byte) : (s.push8 v).pc = s.pc := rfl
@[simp] theorem State.push8_xpc (v : Byte) : (s.push8 v).xpc = s.xpc := rfl
@[simp] theorem State.push8_iir (v : Byte) : (s.push8 v).iir = s.iir := rfl
@[simp] theorem State.push8_eir (v : Byte) : (s.push8 v).eir = s.eir := rfl
@[simp] theorem State.push8_ip (v : Byte) : (s.push8 v).ip = s.ip := rfl
@[simp] theorem State.push8_su (v : Byte) : (s.push8 v).su = s.su := rfl
@[simp] theorem State.push8_smvPending (v : Byte) : (s.push8 v).smvPending = s.smvPending := rfl
@[simp] theorem State.push8_deferIrq (v : Byte) : (s.push8 v).deferIrq = s.deferIrq := rfl
@[simp] theorem State.push8_lastHadIoPrefix (v : Byte) : (s.push8 v).lastHadIoPrefix = s.lastHadIoPrefix := rfl
@[simp] theorem State.push8_ctx (v : Byte) : (s.push8 v).ctx = s.ctx := rfl
@[simp] theorem State.push8_platform (v : Byte) : (s.push8 v).platform = s.platform := rfl
@[simp] theorem State.push8_variant (v : Byte) : (s.push8 v).variant = s.variant := rfl
@[simp] theorem State.push8_smv (v : Byte) : (s.push8 v).smv = s.smv := rfl
@[simp] theorem State.push8_userRestriction (v : Byte) : (s.push8 v).userRestriction = s.userRestriction := rfl
@[simp] theorem State.push8_translation (v : Byte) : (s.push8 v).translation = s.translation := rfl
@[simp] theorem State.push8_mem (v : Byte) : (s.push8 v).mem = (s.memWrite8 (s.sp - 1) v).mem := rfl
@[simp] theorem State.push8_io (v : Byte) : (s.push8 v).io = s.io := rfl
@[simp] theorem State.push8_irqs (v : Byte) : (s.push8 v).irqs = s.irqs := rfl
@[simp] theorem State.push8_draws (v : Byte) : (s.push8 v).draws = s.draws := rfl

/-! ### `State.push16` -/

@[simp] theorem State.push16_main (v : Word) : (s.push16 v).main = s.main := rfl
@[simp] theorem State.push16_alt (v : Word) : (s.push16 v).alt = s.alt := rfl
@[simp] theorem State.push16_ix (v : Word) : (s.push16 v).ix = s.ix := rfl
@[simp] theorem State.push16_iy (v : Word) : (s.push16 v).iy = s.iy := rfl
@[simp] theorem State.push16_sp (v : Word) : (s.push16 v).sp = s.sp - 2 := rfl
@[simp] theorem State.push16_pc (v : Word) : (s.push16 v).pc = s.pc := rfl
@[simp] theorem State.push16_xpc (v : Word) : (s.push16 v).xpc = s.xpc := rfl
@[simp] theorem State.push16_iir (v : Word) : (s.push16 v).iir = s.iir := rfl
@[simp] theorem State.push16_eir (v : Word) : (s.push16 v).eir = s.eir := rfl
@[simp] theorem State.push16_ip (v : Word) : (s.push16 v).ip = s.ip := rfl
@[simp] theorem State.push16_su (v : Word) : (s.push16 v).su = s.su := rfl
@[simp] theorem State.push16_smvPending (v : Word) : (s.push16 v).smvPending = s.smvPending := rfl
@[simp] theorem State.push16_deferIrq (v : Word) : (s.push16 v).deferIrq = s.deferIrq := rfl
@[simp] theorem State.push16_lastHadIoPrefix (v : Word) : (s.push16 v).lastHadIoPrefix = s.lastHadIoPrefix := rfl
@[simp] theorem State.push16_ctx (v : Word) : (s.push16 v).ctx = s.ctx := rfl
@[simp] theorem State.push16_platform (v : Word) : (s.push16 v).platform = s.platform := rfl
@[simp] theorem State.push16_variant (v : Word) : (s.push16 v).variant = s.variant := rfl
@[simp] theorem State.push16_smv (v : Word) : (s.push16 v).smv = s.smv := rfl
@[simp] theorem State.push16_userRestriction (v : Word) : (s.push16 v).userRestriction = s.userRestriction := rfl
@[simp] theorem State.push16_translation (v : Word) : (s.push16 v).translation = s.translation := rfl
@[simp] theorem State.push16_mem (v : Word) : (s.push16 v).mem = ((s.memWrite8 (s.sp - 1) (hiByte v)).memWrite8 (s.sp - 2) (loByte v)).mem := rfl
@[simp] theorem State.push16_io (v : Word) : (s.push16 v).io = s.io := rfl
@[simp] theorem State.push16_irqs (v : Word) : (s.push16 v).irqs = s.irqs := rfl
@[simp] theorem State.push16_draws (v : Word) : (s.push16 v).draws = s.draws := rfl

/-! ### `State.dropStack` -/

@[simp] theorem State.dropStack_main (n : Word) : (s.dropStack n).main = s.main := rfl
@[simp] theorem State.dropStack_alt (n : Word) : (s.dropStack n).alt = s.alt := rfl
@[simp] theorem State.dropStack_ix (n : Word) : (s.dropStack n).ix = s.ix := rfl
@[simp] theorem State.dropStack_iy (n : Word) : (s.dropStack n).iy = s.iy := rfl
@[simp] theorem State.dropStack_sp (n : Word) : (s.dropStack n).sp = s.sp + n := rfl
@[simp] theorem State.dropStack_pc (n : Word) : (s.dropStack n).pc = s.pc := rfl
@[simp] theorem State.dropStack_xpc (n : Word) : (s.dropStack n).xpc = s.xpc := rfl
@[simp] theorem State.dropStack_iir (n : Word) : (s.dropStack n).iir = s.iir := rfl
@[simp] theorem State.dropStack_eir (n : Word) : (s.dropStack n).eir = s.eir := rfl
@[simp] theorem State.dropStack_ip (n : Word) : (s.dropStack n).ip = s.ip := rfl
@[simp] theorem State.dropStack_su (n : Word) : (s.dropStack n).su = s.su := rfl
@[simp] theorem State.dropStack_smvPending (n : Word) : (s.dropStack n).smvPending = s.smvPending := rfl
@[simp] theorem State.dropStack_deferIrq (n : Word) : (s.dropStack n).deferIrq = s.deferIrq := rfl
@[simp] theorem State.dropStack_lastHadIoPrefix (n : Word) : (s.dropStack n).lastHadIoPrefix = s.lastHadIoPrefix := rfl
@[simp] theorem State.dropStack_ctx (n : Word) : (s.dropStack n).ctx = s.ctx := rfl
@[simp] theorem State.dropStack_platform (n : Word) : (s.dropStack n).platform = s.platform := rfl
@[simp] theorem State.dropStack_variant (n : Word) : (s.dropStack n).variant = s.variant := rfl
@[simp] theorem State.dropStack_smv (n : Word) : (s.dropStack n).smv = s.smv := rfl
@[simp] theorem State.dropStack_userRestriction (n : Word) : (s.dropStack n).userRestriction = s.userRestriction := rfl
@[simp] theorem State.dropStack_translation (n : Word) : (s.dropStack n).translation = s.translation := rfl
@[simp] theorem State.dropStack_mem (n : Word) : (s.dropStack n).mem = s.mem := rfl
@[simp] theorem State.dropStack_io (n : Word) : (s.dropStack n).io = s.io := rfl
@[simp] theorem State.dropStack_irqs (n : Word) : (s.dropStack n).irqs = s.irqs := rfl
@[simp] theorem State.dropStack_draws (n : Word) : (s.dropStack n).draws = s.draws := rfl

/-! ### `State.setPc` -/

@[simp] theorem State.setPc_main (t : Word) : (s.setPc t).main = s.main := rfl
@[simp] theorem State.setPc_alt (t : Word) : (s.setPc t).alt = s.alt := rfl
@[simp] theorem State.setPc_ix (t : Word) : (s.setPc t).ix = s.ix := rfl
@[simp] theorem State.setPc_iy (t : Word) : (s.setPc t).iy = s.iy := rfl
@[simp] theorem State.setPc_sp (t : Word) : (s.setPc t).sp = s.sp := rfl
@[simp] theorem State.setPc_pc (t : Word) : (s.setPc t).pc = t := rfl
@[simp] theorem State.setPc_xpc (t : Word) : (s.setPc t).xpc = s.xpc := rfl
@[simp] theorem State.setPc_iir (t : Word) : (s.setPc t).iir = s.iir := rfl
@[simp] theorem State.setPc_eir (t : Word) : (s.setPc t).eir = s.eir := rfl
@[simp] theorem State.setPc_ip (t : Word) : (s.setPc t).ip = s.ip := rfl
@[simp] theorem State.setPc_su (t : Word) : (s.setPc t).su = s.su := rfl
@[simp] theorem State.setPc_smvPending (t : Word) : (s.setPc t).smvPending = s.smvPending := rfl
@[simp] theorem State.setPc_deferIrq (t : Word) : (s.setPc t).deferIrq = s.deferIrq := rfl
@[simp] theorem State.setPc_lastHadIoPrefix (t : Word) : (s.setPc t).lastHadIoPrefix = s.lastHadIoPrefix := rfl
@[simp] theorem State.setPc_ctx (t : Word) : (s.setPc t).ctx = s.ctx := rfl
@[simp] theorem State.setPc_platform (t : Word) : (s.setPc t).platform = s.platform := rfl
@[simp] theorem State.setPc_variant (t : Word) : (s.setPc t).variant = s.variant := rfl
@[simp] theorem State.setPc_smv (t : Word) : (s.setPc t).smv = s.smv := rfl
@[simp] theorem State.setPc_userRestriction (t : Word) : (s.setPc t).userRestriction = s.userRestriction := rfl
@[simp] theorem State.setPc_translation (t : Word) : (s.setPc t).translation = s.translation := rfl
@[simp] theorem State.setPc_mem (t : Word) : (s.setPc t).mem = s.mem := rfl
@[simp] theorem State.setPc_io (t : Word) : (s.setPc t).io = s.io := rfl
@[simp] theorem State.setPc_irqs (t : Word) : (s.setPc t).irqs = s.irqs := rfl
@[simp] theorem State.setPc_draws (t : Word) : (s.setPc t).draws = s.draws := rfl

/-! ### `State.privileged` -/

@[simp] theorem State.privileged_main : (s.privileged).main = s.main := rfl
@[simp] theorem State.privileged_alt : (s.privileged).alt = s.alt := rfl
@[simp] theorem State.privileged_ix : (s.privileged).ix = s.ix := rfl
@[simp] theorem State.privileged_iy : (s.privileged).iy = s.iy := rfl
@[simp] theorem State.privileged_sp : (s.privileged).sp = s.sp := rfl
@[simp] theorem State.privileged_pc : (s.privileged).pc = s.pc := rfl
@[simp] theorem State.privileged_xpc : (s.privileged).xpc = s.xpc := rfl
@[simp] theorem State.privileged_iir : (s.privileged).iir = s.iir := rfl
@[simp] theorem State.privileged_eir : (s.privileged).eir = s.eir := rfl
@[simp] theorem State.privileged_ip : (s.privileged).ip = s.ip := rfl
@[simp] theorem State.privileged_su : (s.privileged).su = s.su := rfl
@[simp] theorem State.privileged_smvPending : (s.privileged).smvPending = s.smvPending := rfl
@[simp] theorem State.privileged_deferIrq : (s.privileged).deferIrq = true := rfl
@[simp] theorem State.privileged_lastHadIoPrefix : (s.privileged).lastHadIoPrefix = s.lastHadIoPrefix := rfl
@[simp] theorem State.privileged_ctx : (s.privileged).ctx = s.ctx := rfl
@[simp] theorem State.privileged_platform : (s.privileged).platform = s.platform := rfl
@[simp] theorem State.privileged_variant : (s.privileged).variant = s.variant := rfl
@[simp] theorem State.privileged_smv : (s.privileged).smv = s.smv := rfl
@[simp] theorem State.privileged_userRestriction : (s.privileged).userRestriction = s.userRestriction := rfl
@[simp] theorem State.privileged_translation : (s.privileged).translation = s.translation := rfl
@[simp] theorem State.privileged_mem : (s.privileged).mem = s.mem := rfl
@[simp] theorem State.privileged_io : (s.privileged).io = s.io := rfl
@[simp] theorem State.privileged_irqs : (s.privileged).irqs = s.irqs := rfl
@[simp] theorem State.privileged_draws : (s.privileged).draws = s.draws := rfl

/-! ### `State.returnFromInterrupt` -/

@[simp] theorem State.returnFromInterrupt_main : (s.returnFromInterrupt).main = s.main := rfl
@[simp] theorem State.returnFromInterrupt_alt : (s.returnFromInterrupt).alt = s.alt := rfl
@[simp] theorem State.returnFromInterrupt_ix : (s.returnFromInterrupt).ix = s.ix := rfl
@[simp] theorem State.returnFromInterrupt_iy : (s.returnFromInterrupt).iy = s.iy := rfl
@[simp] theorem State.returnFromInterrupt_sp : (s.returnFromInterrupt).sp = s.sp + 3 := rfl
@[simp] theorem State.returnFromInterrupt_pc : (s.returnFromInterrupt).pc = s.memRead16 (s.sp + 1) := rfl
@[simp] theorem State.returnFromInterrupt_xpc : (s.returnFromInterrupt).xpc = s.xpc := rfl
@[simp] theorem State.returnFromInterrupt_iir : (s.returnFromInterrupt).iir = s.iir := rfl
@[simp] theorem State.returnFromInterrupt_eir : (s.returnFromInterrupt).eir = s.eir := rfl
@[simp] theorem State.returnFromInterrupt_ip : (s.returnFromInterrupt).ip = s.memRead8 s.sp := rfl
@[simp] theorem State.returnFromInterrupt_su : (s.returnFromInterrupt).su = s.su := rfl
@[simp] theorem State.returnFromInterrupt_smvPending : (s.returnFromInterrupt).smvPending = s.smvPending := rfl
@[simp] theorem State.returnFromInterrupt_deferIrq : (s.returnFromInterrupt).deferIrq = s.deferIrq := rfl
@[simp] theorem State.returnFromInterrupt_lastHadIoPrefix : (s.returnFromInterrupt).lastHadIoPrefix = s.lastHadIoPrefix := rfl
@[simp] theorem State.returnFromInterrupt_ctx : (s.returnFromInterrupt).ctx = s.ctx := rfl
@[simp] theorem State.returnFromInterrupt_platform : (s.returnFromInterrupt).platform = s.platform := rfl
@[simp] theorem State.returnFromInterrupt_variant : (s.returnFromInterrupt).variant = s.variant := rfl
@[simp] theorem State.returnFromInterrupt_smv : (s.returnFromInterrupt).smv = s.smv := rfl
@[simp] theorem State.returnFromInterrupt_userRestriction : (s.returnFromInterrupt).userRestriction = s.userRestriction := rfl
@[simp] theorem State.returnFromInterrupt_translation : (s.returnFromInterrupt).translation = s.translation := rfl
@[simp] theorem State.returnFromInterrupt_mem : (s.returnFromInterrupt).mem = s.mem := rfl
@[simp] theorem State.returnFromInterrupt_io : (s.returnFromInterrupt).io = s.io := rfl
@[simp] theorem State.returnFromInterrupt_irqs : (s.returnFromInterrupt).irqs = s.irqs := rfl
@[simp] theorem State.returnFromInterrupt_draws : (s.returnFromInterrupt).draws = s.draws := rfl

/-! ### `State.takeInterrupt` -/

@[simp] theorem State.takeInterrupt_main (r : IntRequest) (b : Bool) : (s.takeInterrupt r b).main = s.main := rfl
@[simp] theorem State.takeInterrupt_alt (r : IntRequest) (b : Bool) : (s.takeInterrupt r b).alt = s.alt := rfl
@[simp] theorem State.takeInterrupt_ix (r : IntRequest) (b : Bool) : (s.takeInterrupt r b).ix = s.ix := rfl
@[simp] theorem State.takeInterrupt_iy (r : IntRequest) (b : Bool) : (s.takeInterrupt r b).iy = s.iy := rfl
@[simp] theorem State.takeInterrupt_sp (r : IntRequest) (b : Bool) : (s.takeInterrupt r b).sp = s.sp - 2 := rfl
@[simp] theorem State.takeInterrupt_pc (r : IntRequest) (b : Bool) : (s.takeInterrupt r b).pc = s.vector r := rfl
@[simp] theorem State.takeInterrupt_xpc (r : IntRequest) (b : Bool) : (s.takeInterrupt r b).xpc = s.xpc := rfl
@[simp] theorem State.takeInterrupt_iir (r : IntRequest) (b : Bool) : (s.takeInterrupt r b).iir = s.iir := rfl
@[simp] theorem State.takeInterrupt_eir (r : IntRequest) (b : Bool) : (s.takeInterrupt r b).eir = s.eir := rfl
@[simp] theorem State.takeInterrupt_ip (r : IntRequest) (b : Bool) : (s.takeInterrupt r b).ip = pushField s.ip r.prio := rfl
@[simp] theorem State.takeInterrupt_su (r : IntRequest) (b : Bool) : (s.takeInterrupt r b).su = s.su := rfl
@[simp] theorem State.takeInterrupt_smvPending (r : IntRequest) (b : Bool) : (s.takeInterrupt r b).smvPending = (s.smvPending && !b) := rfl
@[simp] theorem State.takeInterrupt_deferIrq (r : IntRequest) (b : Bool) : (s.takeInterrupt r b).deferIrq = false := rfl
@[simp] theorem State.takeInterrupt_lastHadIoPrefix (r : IntRequest) (b : Bool) : (s.takeInterrupt r b).lastHadIoPrefix = false := rfl
@[simp] theorem State.takeInterrupt_ctx (r : IntRequest) (b : Bool) : (s.takeInterrupt r b).ctx = s.ctx := rfl
@[simp] theorem State.takeInterrupt_platform (r : IntRequest) (b : Bool) : (s.takeInterrupt r b).platform = s.platform := rfl
@[simp] theorem State.takeInterrupt_variant (r : IntRequest) (b : Bool) : (s.takeInterrupt r b).variant = s.variant := rfl
@[simp] theorem State.takeInterrupt_smv (r : IntRequest) (b : Bool) : (s.takeInterrupt r b).smv = s.smv := rfl
@[simp] theorem State.takeInterrupt_userRestriction (r : IntRequest) (b : Bool) : (s.takeInterrupt r b).userRestriction = s.userRestriction := rfl
@[simp] theorem State.takeInterrupt_translation (r : IntRequest) (b : Bool) : (s.takeInterrupt r b).translation = s.translation := rfl
@[simp] theorem State.takeInterrupt_mem (r : IntRequest) (b : Bool) : (s.takeInterrupt r b).mem = (s.push16 s.pc).mem := rfl
@[simp] theorem State.takeInterrupt_io (r : IntRequest) (b : Bool) : (s.takeInterrupt r b).io = s.io := rfl
@[simp] theorem State.takeInterrupt_irqs (r : IntRequest) (b : Bool) : (s.takeInterrupt r b).irqs = s.irqs := rfl
@[simp] theorem State.takeInterrupt_draws (r : IntRequest) (b : Bool) : (s.takeInterrupt r b).draws = s.draws := rfl

/-! ### `State.advance` -/

@[simp] theorem State.advance_main (n : Nat) : (s.advance n).main = s.main := rfl
@[simp] theorem State.advance_alt (n : Nat) : (s.advance n).alt = s.alt := rfl
@[simp] theorem State.advance_ix (n : Nat) : (s.advance n).ix = s.ix := rfl
@[simp] theorem State.advance_iy (n : Nat) : (s.advance n).iy = s.iy := rfl
@[simp] theorem State.advance_sp (n : Nat) : (s.advance n).sp = s.sp := rfl
@[simp] theorem State.advance_pc (n : Nat) : (s.advance n).pc = s.pc + BitVec.ofNat 16 n := rfl
@[simp] theorem State.advance_xpc (n : Nat) : (s.advance n).xpc = s.xpc := rfl
@[simp] theorem State.advance_iir (n : Nat) : (s.advance n).iir = s.iir := rfl
@[simp] theorem State.advance_eir (n : Nat) : (s.advance n).eir = s.eir := rfl
@[simp] theorem State.advance_ip (n : Nat) : (s.advance n).ip = s.ip := rfl
@[simp] theorem State.advance_su (n : Nat) : (s.advance n).su = s.su := rfl
@[simp] theorem State.advance_smvPending (n : Nat) : (s.advance n).smvPending = s.smvPending := rfl
@[simp] theorem State.advance_deferIrq (n : Nat) : (s.advance n).deferIrq = s.deferIrq := rfl
@[simp] theorem State.advance_lastHadIoPrefix (n : Nat) : (s.advance n).lastHadIoPrefix = s.lastHadIoPrefix := rfl
@[simp] theorem State.advance_ctx (n : Nat) : (s.advance n).ctx = s.ctx := rfl
@[simp] theorem State.advance_platform (n : Nat) : (s.advance n).platform = s.platform := rfl
@[simp] theorem State.advance_variant (n : Nat) : (s.advance n).variant = s.variant := rfl
@[simp] theorem State.advance_smv (n : Nat) : (s.advance n).smv = s.smv := rfl
@[simp] theorem State.advance_userRestriction (n : Nat) : (s.advance n).userRestriction = s.userRestriction := rfl
@[simp] theorem State.advance_translation (n : Nat) : (s.advance n).translation = s.translation := rfl
@[simp] theorem State.advance_mem (n : Nat) : (s.advance n).mem = s.mem := rfl
@[simp] theorem State.advance_io (n : Nat) : (s.advance n).io = s.io := rfl
@[simp] theorem State.advance_irqs (n : Nat) : (s.advance n).irqs = s.irqs := rfl
@[simp] theorem State.advance_draws (n : Nat) : (s.advance n).draws = s.draws := rfl

/-! ### `State.beginInstr` -/

@[simp] theorem State.beginInstr_main : (s.beginInstr).main = s.main := rfl
@[simp] theorem State.beginInstr_alt : (s.beginInstr).alt = s.alt := rfl
@[simp] theorem State.beginInstr_ix : (s.beginInstr).ix = s.ix := rfl
@[simp] theorem State.beginInstr_iy : (s.beginInstr).iy = s.iy := rfl
@[simp] theorem State.beginInstr_sp : (s.beginInstr).sp = s.sp := rfl
@[simp] theorem State.beginInstr_pc : (s.beginInstr).pc = s.pc := rfl
@[simp] theorem State.beginInstr_xpc : (s.beginInstr).xpc = s.xpc := rfl
@[simp] theorem State.beginInstr_iir : (s.beginInstr).iir = s.iir := rfl
@[simp] theorem State.beginInstr_eir : (s.beginInstr).eir = s.eir := rfl
@[simp] theorem State.beginInstr_ip : (s.beginInstr).ip = s.ip := rfl
@[simp] theorem State.beginInstr_su : (s.beginInstr).su = s.su := rfl
@[simp] theorem State.beginInstr_smvPending : (s.beginInstr).smvPending = s.smvPending := rfl
@[simp] theorem State.beginInstr_deferIrq : (s.beginInstr).deferIrq = false := rfl
@[simp] theorem State.beginInstr_lastHadIoPrefix : (s.beginInstr).lastHadIoPrefix = s.lastHadIoPrefix := rfl
@[simp] theorem State.beginInstr_ctx : (s.beginInstr).ctx = { altd := false, iop := none, first := s.pc } := rfl
@[simp] theorem State.beginInstr_platform : (s.beginInstr).platform = s.platform := rfl
@[simp] theorem State.beginInstr_variant : (s.beginInstr).variant = s.variant := rfl
@[simp] theorem State.beginInstr_smv : (s.beginInstr).smv = s.smv := rfl
@[simp] theorem State.beginInstr_userRestriction : (s.beginInstr).userRestriction = s.userRestriction := rfl
@[simp] theorem State.beginInstr_translation : (s.beginInstr).translation = s.translation := rfl
@[simp] theorem State.beginInstr_mem : (s.beginInstr).mem = s.mem := rfl
@[simp] theorem State.beginInstr_io : (s.beginInstr).io = s.io := rfl
@[simp] theorem State.beginInstr_irqs : (s.beginInstr).irqs = s.irqs := rfl
@[simp] theorem State.beginInstr_draws : (s.beginInstr).draws = s.draws := rfl

/-! ### `State.markRestricted` -/

@[simp] theorem State.markRestricted_main (b : Bool) : (s.markRestricted b).main = s.main := rfl
@[simp] theorem State.markRestricted_alt (b : Bool) : (s.markRestricted b).alt = s.alt := rfl
@[simp] theorem State.markRestricted_ix (b : Bool) : (s.markRestricted b).ix = s.ix := rfl
@[simp] theorem State.markRestricted_iy (b : Bool) : (s.markRestricted b).iy = s.iy := rfl
@[simp] theorem State.markRestricted_sp (b : Bool) : (s.markRestricted b).sp = s.sp := rfl
@[simp] theorem State.markRestricted_pc (b : Bool) : (s.markRestricted b).pc = s.pc := rfl
@[simp] theorem State.markRestricted_xpc (b : Bool) : (s.markRestricted b).xpc = s.xpc := rfl
@[simp] theorem State.markRestricted_iir (b : Bool) : (s.markRestricted b).iir = s.iir := rfl
@[simp] theorem State.markRestricted_eir (b : Bool) : (s.markRestricted b).eir = s.eir := rfl
@[simp] theorem State.markRestricted_ip (b : Bool) : (s.markRestricted b).ip = s.ip := rfl
@[simp] theorem State.markRestricted_su (b : Bool) : (s.markRestricted b).su = s.su := rfl
@[simp] theorem State.markRestricted_smvPending (b : Bool) : (s.markRestricted b).smvPending = (s.smvPending || b) := rfl
@[simp] theorem State.markRestricted_deferIrq (b : Bool) : (s.markRestricted b).deferIrq = s.deferIrq := rfl
@[simp] theorem State.markRestricted_lastHadIoPrefix (b : Bool) : (s.markRestricted b).lastHadIoPrefix = s.lastHadIoPrefix := rfl
@[simp] theorem State.markRestricted_ctx (b : Bool) : (s.markRestricted b).ctx = s.ctx := rfl
@[simp] theorem State.markRestricted_platform (b : Bool) : (s.markRestricted b).platform = s.platform := rfl
@[simp] theorem State.markRestricted_variant (b : Bool) : (s.markRestricted b).variant = s.variant := rfl
@[simp] theorem State.markRestricted_smv (b : Bool) : (s.markRestricted b).smv = s.smv := rfl
@[simp] theorem State.markRestricted_userRestriction (b : Bool) : (s.markRestricted b).userRestriction = s.userRestriction := rfl
@[simp] theorem State.markRestricted_translation (b : Bool) : (s.markRestricted b).translation = s.translation := rfl
@[simp] theorem State.markRestricted_mem (b : Bool) : (s.markRestricted b).mem = s.mem := rfl
@[simp] theorem State.markRestricted_io (b : Bool) : (s.markRestricted b).io = s.io := rfl
@[simp] theorem State.markRestricted_irqs (b : Bool) : (s.markRestricted b).irqs = s.irqs := rfl
@[simp] theorem State.markRestricted_draws (b : Bool) : (s.markRestricted b).draws = s.draws := rfl

/-! ### `State.nextBoundary` -/

@[simp] theorem State.nextBoundary_main : (s.nextBoundary).main = s.main := rfl
@[simp] theorem State.nextBoundary_alt : (s.nextBoundary).alt = s.alt := rfl
@[simp] theorem State.nextBoundary_ix : (s.nextBoundary).ix = s.ix := rfl
@[simp] theorem State.nextBoundary_iy : (s.nextBoundary).iy = s.iy := rfl
@[simp] theorem State.nextBoundary_sp : (s.nextBoundary).sp = s.sp := rfl
@[simp] theorem State.nextBoundary_pc : (s.nextBoundary).pc = s.pc := rfl
@[simp] theorem State.nextBoundary_xpc : (s.nextBoundary).xpc = s.xpc := rfl
@[simp] theorem State.nextBoundary_iir : (s.nextBoundary).iir = s.iir := rfl
@[simp] theorem State.nextBoundary_eir : (s.nextBoundary).eir = s.eir := rfl
@[simp] theorem State.nextBoundary_ip : (s.nextBoundary).ip = s.ip := rfl
@[simp] theorem State.nextBoundary_su : (s.nextBoundary).su = s.su := rfl
@[simp] theorem State.nextBoundary_smvPending : (s.nextBoundary).smvPending = s.smvPending := rfl
@[simp] theorem State.nextBoundary_deferIrq : (s.nextBoundary).deferIrq = s.deferIrq := rfl
@[simp] theorem State.nextBoundary_lastHadIoPrefix : (s.nextBoundary).lastHadIoPrefix = s.lastHadIoPrefix := rfl
@[simp] theorem State.nextBoundary_ctx : (s.nextBoundary).ctx = s.ctx := rfl
@[simp] theorem State.nextBoundary_platform : (s.nextBoundary).platform = s.platform := rfl
@[simp] theorem State.nextBoundary_variant : (s.nextBoundary).variant = s.variant := rfl
@[simp] theorem State.nextBoundary_smv : (s.nextBoundary).smv = s.smv := rfl
@[simp] theorem State.nextBoundary_userRestriction : (s.nextBoundary).userRestriction = s.userRestriction := rfl
@[simp] theorem State.nextBoundary_translation : (s.nextBoundary).translation = s.translation := rfl
@[simp] theorem State.nextBoundary_mem : (s.nextBoundary).mem = s.mem := rfl
@[simp] theorem State.nextBoundary_io : (s.nextBoundary).io = s.io := rfl
@[simp] theorem State.nextBoundary_irqs : (s.nextBoundary).irqs = s.irqs.tail := rfl
@[simp] theorem State.nextBoundary_draws : (s.nextBoundary).draws = s.draws := rfl

/-! ### `State.endInstr` -/

@[simp] theorem State.endInstr_main (b : Bool) : (State.endInstr b s).main = s.main := rfl
@[simp] theorem State.endInstr_alt (b : Bool) : (State.endInstr b s).alt = s.alt := rfl
@[simp] theorem State.endInstr_ix (b : Bool) : (State.endInstr b s).ix = s.ix := rfl
@[simp] theorem State.endInstr_iy (b : Bool) : (State.endInstr b s).iy = s.iy := rfl
@[simp] theorem State.endInstr_sp (b : Bool) : (State.endInstr b s).sp = s.sp := rfl
@[simp] theorem State.endInstr_pc (b : Bool) : (State.endInstr b s).pc = s.pc := rfl
@[simp] theorem State.endInstr_xpc (b : Bool) : (State.endInstr b s).xpc = s.xpc := rfl
@[simp] theorem State.endInstr_iir (b : Bool) : (State.endInstr b s).iir = s.iir := rfl
@[simp] theorem State.endInstr_eir (b : Bool) : (State.endInstr b s).eir = s.eir := rfl
@[simp] theorem State.endInstr_ip (b : Bool) : (State.endInstr b s).ip = s.ip := rfl
@[simp] theorem State.endInstr_su (b : Bool) : (State.endInstr b s).su = s.su := rfl
@[simp] theorem State.endInstr_smvPending (b : Bool) : (State.endInstr b s).smvPending = s.smvPending := rfl
@[simp] theorem State.endInstr_deferIrq (b : Bool) : (State.endInstr b s).deferIrq = s.deferIrq := rfl
@[simp] theorem State.endInstr_lastHadIoPrefix (b : Bool) : (State.endInstr b s).lastHadIoPrefix = b := rfl
@[simp] theorem State.endInstr_ctx (b : Bool) : (State.endInstr b s).ctx = PrefixCtx.idle := rfl
@[simp] theorem State.endInstr_platform (b : Bool) : (State.endInstr b s).platform = s.platform := rfl
@[simp] theorem State.endInstr_variant (b : Bool) : (State.endInstr b s).variant = s.variant := rfl
@[simp] theorem State.endInstr_smv (b : Bool) : (State.endInstr b s).smv = s.smv := rfl
@[simp] theorem State.endInstr_userRestriction (b : Bool) : (State.endInstr b s).userRestriction = s.userRestriction := rfl
@[simp] theorem State.endInstr_translation (b : Bool) : (State.endInstr b s).translation = s.translation := rfl
@[simp] theorem State.endInstr_mem (b : Bool) : (State.endInstr b s).mem = s.mem := rfl
@[simp] theorem State.endInstr_io (b : Bool) : (State.endInstr b s).io = s.io := rfl
@[simp] theorem State.endInstr_irqs (b : Bool) : (State.endInstr b s).irqs = s.irqs := rfl
@[simp] theorem State.endInstr_draws (b : Bool) : (State.endInstr b s).draws = s.draws := rfl

/-! ### Banks and flags -/

@[simp] theorem Bank.set_b_b (k : Bank) (v : Byte) : (k.set .b v).b = v := rfl
@[simp] theorem Bank.set_b_c (k : Bank) (v : Byte) : (k.set .b v).c = k.c := rfl
@[simp] theorem Bank.set_b_d (k : Bank) (v : Byte) : (k.set .b v).d = k.d := rfl
@[simp] theorem Bank.set_b_e (k : Bank) (v : Byte) : (k.set .b v).e = k.e := rfl
@[simp] theorem Bank.set_b_h (k : Bank) (v : Byte) : (k.set .b v).h = k.h := rfl
@[simp] theorem Bank.set_b_l (k : Bank) (v : Byte) : (k.set .b v).l = k.l := rfl
@[simp] theorem Bank.set_b_a (k : Bank) (v : Byte) : (k.set .b v).a = k.a := rfl
@[simp] theorem Bank.set_b_f (k : Bank) (v : Byte) : (k.set .b v).f = k.f := rfl
@[simp] theorem Bank.get_b (k : Bank) : k.get .b = k.b := rfl
@[simp] theorem Bank.set_c_b (k : Bank) (v : Byte) : (k.set .c v).b = k.b := rfl
@[simp] theorem Bank.set_c_c (k : Bank) (v : Byte) : (k.set .c v).c = v := rfl
@[simp] theorem Bank.set_c_d (k : Bank) (v : Byte) : (k.set .c v).d = k.d := rfl
@[simp] theorem Bank.set_c_e (k : Bank) (v : Byte) : (k.set .c v).e = k.e := rfl
@[simp] theorem Bank.set_c_h (k : Bank) (v : Byte) : (k.set .c v).h = k.h := rfl
@[simp] theorem Bank.set_c_l (k : Bank) (v : Byte) : (k.set .c v).l = k.l := rfl
@[simp] theorem Bank.set_c_a (k : Bank) (v : Byte) : (k.set .c v).a = k.a := rfl
@[simp] theorem Bank.set_c_f (k : Bank) (v : Byte) : (k.set .c v).f = k.f := rfl
@[simp] theorem Bank.get_c (k : Bank) : k.get .c = k.c := rfl
@[simp] theorem Bank.set_d_b (k : Bank) (v : Byte) : (k.set .d v).b = k.b := rfl
@[simp] theorem Bank.set_d_c (k : Bank) (v : Byte) : (k.set .d v).c = k.c := rfl
@[simp] theorem Bank.set_d_d (k : Bank) (v : Byte) : (k.set .d v).d = v := rfl
@[simp] theorem Bank.set_d_e (k : Bank) (v : Byte) : (k.set .d v).e = k.e := rfl
@[simp] theorem Bank.set_d_h (k : Bank) (v : Byte) : (k.set .d v).h = k.h := rfl
@[simp] theorem Bank.set_d_l (k : Bank) (v : Byte) : (k.set .d v).l = k.l := rfl
@[simp] theorem Bank.set_d_a (k : Bank) (v : Byte) : (k.set .d v).a = k.a := rfl
@[simp] theorem Bank.set_d_f (k : Bank) (v : Byte) : (k.set .d v).f = k.f := rfl
@[simp] theorem Bank.get_d (k : Bank) : k.get .d = k.d := rfl
@[simp] theorem Bank.set_e_b (k : Bank) (v : Byte) : (k.set .e v).b = k.b := rfl
@[simp] theorem Bank.set_e_c (k : Bank) (v : Byte) : (k.set .e v).c = k.c := rfl
@[simp] theorem Bank.set_e_d (k : Bank) (v : Byte) : (k.set .e v).d = k.d := rfl
@[simp] theorem Bank.set_e_e (k : Bank) (v : Byte) : (k.set .e v).e = v := rfl
@[simp] theorem Bank.set_e_h (k : Bank) (v : Byte) : (k.set .e v).h = k.h := rfl
@[simp] theorem Bank.set_e_l (k : Bank) (v : Byte) : (k.set .e v).l = k.l := rfl
@[simp] theorem Bank.set_e_a (k : Bank) (v : Byte) : (k.set .e v).a = k.a := rfl
@[simp] theorem Bank.set_e_f (k : Bank) (v : Byte) : (k.set .e v).f = k.f := rfl
@[simp] theorem Bank.get_e (k : Bank) : k.get .e = k.e := rfl
@[simp] theorem Bank.set_h_b (k : Bank) (v : Byte) : (k.set .h v).b = k.b := rfl
@[simp] theorem Bank.set_h_c (k : Bank) (v : Byte) : (k.set .h v).c = k.c := rfl
@[simp] theorem Bank.set_h_d (k : Bank) (v : Byte) : (k.set .h v).d = k.d := rfl
@[simp] theorem Bank.set_h_e (k : Bank) (v : Byte) : (k.set .h v).e = k.e := rfl
@[simp] theorem Bank.set_h_h (k : Bank) (v : Byte) : (k.set .h v).h = v := rfl
@[simp] theorem Bank.set_h_l (k : Bank) (v : Byte) : (k.set .h v).l = k.l := rfl
@[simp] theorem Bank.set_h_a (k : Bank) (v : Byte) : (k.set .h v).a = k.a := rfl
@[simp] theorem Bank.set_h_f (k : Bank) (v : Byte) : (k.set .h v).f = k.f := rfl
@[simp] theorem Bank.get_h (k : Bank) : k.get .h = k.h := rfl
@[simp] theorem Bank.set_l_b (k : Bank) (v : Byte) : (k.set .l v).b = k.b := rfl
@[simp] theorem Bank.set_l_c (k : Bank) (v : Byte) : (k.set .l v).c = k.c := rfl
@[simp] theorem Bank.set_l_d (k : Bank) (v : Byte) : (k.set .l v).d = k.d := rfl
@[simp] theorem Bank.set_l_e (k : Bank) (v : Byte) : (k.set .l v).e = k.e := rfl
@[simp] theorem Bank.set_l_h (k : Bank) (v : Byte) : (k.set .l v).h = k.h := rfl
@[simp] theorem Bank.set_l_l (k : Bank) (v : Byte) : (k.set .l v).l = v := rfl
@[simp] theorem Bank.set_l_a (k : Bank) (v : Byte) : (k.set .l v).a = k.a := rfl
@[simp] theorem Bank.set_l_f (k : Bank) (v : Byte) : (k.set .l v).f = k.f := rfl
@[simp] theorem Bank.get_l (k : Bank) : k.get .l = k.l := rfl
@[simp] theorem Bank.set_a_b (k : Bank) (v : Byte) : (k.set .a v).b = k.b := rfl
@[simp] theorem Bank.set_a_c (k : Bank) (v : Byte) : (k.set .a v).c = k.c := rfl
@[simp] theorem Bank.set_a_d (k : Bank) (v : Byte) : (k.set .a v).d = k.d := rfl
@[simp] theorem Bank.set_a_e (k : Bank) (v : Byte) : (k.set .a v).e = k.e := rfl
@[simp] theorem Bank.set_a_h (k : Bank) (v : Byte) : (k.set .a v).h = k.h := rfl
@[simp] theorem Bank.set_a_l (k : Bank) (v : Byte) : (k.set .a v).l = k.l := rfl
@[simp] theorem Bank.set_a_a (k : Bank) (v : Byte) : (k.set .a v).a = v := rfl
@[simp] theorem Bank.set_a_f (k : Bank) (v : Byte) : (k.set .a v).f = k.f := rfl
@[simp] theorem Bank.get_a (k : Bank) : k.get .a = k.a := rfl
@[simp] theorem Bank.setPair_bc_b (k : Bank) (v : Word) : (k.setPair .bc v).b = hiByte v := rfl
@[simp] theorem Bank.setPair_bc_c (k : Bank) (v : Word) : (k.setPair .bc v).c = loByte v := rfl
@[simp] theorem Bank.setPair_bc_d (k : Bank) (v : Word) : (k.setPair .bc v).d = k.d := rfl
@[simp] theorem Bank.setPair_bc_e (k : Bank) (v : Word) : (k.setPair .bc v).e = k.e := rfl
@[simp] theorem Bank.setPair_bc_h (k : Bank) (v : Word) : (k.setPair .bc v).h = k.h := rfl
@[simp] theorem Bank.setPair_bc_l (k : Bank) (v : Word) : (k.setPair .bc v).l = k.l := rfl
@[simp] theorem Bank.setPair_bc_a (k : Bank) (v : Word) : (k.setPair .bc v).a = k.a := rfl
@[simp] theorem Bank.setPair_bc_f (k : Bank) (v : Word) : (k.setPair .bc v).f = k.f := rfl
@[simp] theorem Bank.pair_bc (k : Bank) : k.pair .bc = mkWord k.b k.c := rfl
@[simp] theorem Bank.setPair_de_b (k : Bank) (v : Word) : (k.setPair .de v).b = k.b := rfl
@[simp] theorem Bank.setPair_de_c (k : Bank) (v : Word) : (k.setPair .de v).c = k.c := rfl
@[simp] theorem Bank.setPair_de_d (k : Bank) (v : Word) : (k.setPair .de v).d = hiByte v := rfl
@[simp] theorem Bank.setPair_de_e (k : Bank) (v : Word) : (k.setPair .de v).e = loByte v := rfl
@[simp] theorem Bank.setPair_de_h (k : Bank) (v : Word) : (k.setPair .de v).h = k.h := rfl
@[simp] theorem Bank.setPair_de_l (k : Bank) (v : Word) : (k.setPair .de v).l = k.l := rfl
@[simp] theorem Bank.setPair_de_a (k : Bank) (v : Word) : (k.setPair .de v).a = k.a := rfl
@[simp] theorem Bank.setPair_de_f (k : Bank) (v : Word) : (k.setPair .de v).f = k.f := rfl
@[simp] theorem Bank.pair_de (k : Bank) : k.pair .de = mkWord k.d k.e := rfl
@[simp] theorem Bank.setPair_hl_b (k : Bank) (v : Word) : (k.setPair .hl v).b = k.b := rfl
@[simp] theorem Bank.setPair_hl_c (k : Bank) (v : Word) : (k.setPair .hl v).c = k.c := rfl
@[simp] theorem Bank.setPair_hl_d (k : Bank) (v : Word) : (k.setPair .hl v).d = k.d := rfl
@[simp] theorem Bank.setPair_hl_e (k : Bank) (v : Word) : (k.setPair .hl v).e = k.e := rfl
@[simp] theorem Bank.setPair_hl_h (k : Bank) (v : Word) : (k.setPair .hl v).h = hiByte v := rfl
@[simp] theorem Bank.setPair_hl_l (k : Bank) (v : Word) : (k.setPair .hl v).l = loByte v := rfl
@[simp] theorem Bank.setPair_hl_a (k : Bank) (v : Word) : (k.setPair .hl v).a = k.a := rfl
@[simp] theorem Bank.setPair_hl_f (k : Bank) (v : Word) : (k.setPair .hl v).f = k.f := rfl
@[simp] theorem Bank.pair_hl (k : Bank) : k.pair .hl = mkWord k.h k.l := rfl
@[simp] theorem Bank.updFlags_b (k : Bank) (w : FlagUpd) (o : BitVec 4) : (k.updFlags w o).b = k.b := rfl
@[simp] theorem Bank.updFlags_c (k : Bank) (w : FlagUpd) (o : BitVec 4) : (k.updFlags w o).c = k.c := rfl
@[simp] theorem Bank.updFlags_d (k : Bank) (w : FlagUpd) (o : BitVec 4) : (k.updFlags w o).d = k.d := rfl
@[simp] theorem Bank.updFlags_e (k : Bank) (w : FlagUpd) (o : BitVec 4) : (k.updFlags w o).e = k.e := rfl
@[simp] theorem Bank.updFlags_h (k : Bank) (w : FlagUpd) (o : BitVec 4) : (k.updFlags w o).h = k.h := rfl
@[simp] theorem Bank.updFlags_l (k : Bank) (w : FlagUpd) (o : BitVec 4) : (k.updFlags w o).l = k.l := rfl
@[simp] theorem Bank.updFlags_a (k : Bank) (w : FlagUpd) (o : BitVec 4) : (k.updFlags w o).a = k.a := rfl
@[simp] theorem Bank.updFlags_f (k : Bank) (w : FlagUpd) (o : BitVec 4) : (k.updFlags w o).f = k.f.update w o := rfl
@[simp] theorem Flags.update_s (f : Flags) (w : FlagUpd) (o : BitVec 4) : (f.update w o).s = w.s.getD f.s := rfl
@[simp] theorem Flags.update_z (f : Flags) (w : FlagUpd) (o : BitVec 4) : (f.update w o).z = w.z.getD f.z := rfl
@[simp] theorem Flags.update_lv (f : Flags) (w : FlagUpd) (o : BitVec 4) : (f.update w o).lv = w.lv.getD f.lv := rfl
@[simp] theorem Flags.update_c (f : Flags) (w : FlagUpd) (o : BitVec 4) : (f.update w o).c = w.c.getD f.c := rfl
@[simp] theorem Flags.update_other (f : Flags) (w : FlagUpd) (o : BitVec 4) : (f.update w o).other = o := rfl

end Sys2Proof.Machine
end

