-- ==== Sys2Proof/Laws/Memory.lean ====
section
/-! SUPPORT. The laws of memory: read after write, what a write leaves alone, and that every operation keeps the
canonical form. -/

namespace Sys2Proof.Machine

/-! ## Cells -/

theorem Memory.byteAt_store_same (m : Memory) (a : Nat) (v : Byte) :
    Memory.byteAt a (Memory.store a v m) = some v := by
  induction m with
  | nil => simp [Memory.store, Memory.byteAt]
  | cons p t ih =>
    obtain ⟨k, w⟩ := p
    unfold Memory.store
    split_ifs with h1 h2
    · simp [Memory.byteAt]
    · simp [Memory.byteAt]
    · rw [Memory.byteAt, if_neg (Ne.symm h2), ih]

theorem Memory.byteAt_store_ne {a b : Nat} (h : b ≠ a) (m : Memory) (v : Byte) :
    Memory.byteAt b (Memory.store a v m) = Memory.byteAt b m := by
  induction m with
  | nil => simp [Memory.store, Memory.byteAt, Ne.symm h]
  | cons p t ih =>
    obtain ⟨k, w⟩ := p
    unfold Memory.store
    split_ifs with h1 h2
    · simp [Memory.byteAt, Ne.symm h]
    · subst h2; simp [Memory.byteAt, Ne.symm h]
    · simp only [Memory.byteAt, ih]

theorem Memory.mem_store {m : Memory} {a : Nat} {v : Byte} {p : Host.Cell} (h : p ∈ Memory.store a v m) :
    p = (a, v) ∨ p ∈ m := by
  induction m with
  | nil => simpa [Memory.store] using h
  | cons q t ih =>
    obtain ⟨k, w⟩ := q
    unfold Memory.store at h
    split_ifs at h with h1 h2
    · simpa using h
    · rcases List.mem_cons.mp h with h | h
      · exact .inl h
      · exact .inr (List.mem_cons_of_mem _ h)
    · rcases List.mem_cons.mp h with h | h
      · exact .inr (h ▸ List.mem_cons_self)
      · exact (ih h).imp id (List.mem_cons_of_mem _)

theorem Memory.store_wf {m : Memory} (hm : m.wf) {a : Nat} (ha : a < 2 ^ 20) (v : Byte) :
    Memory.wf (Memory.store a v m) := by
  refine ⟨?_, fun p hp => ?_⟩
  · obtain ⟨hs, -⟩ := hm
    induction m with
    | nil => simp [Memory.store]
    | cons q t ih =>
      obtain ⟨k, w⟩ := q
      rw [List.pairwise_cons] at hs
      unfold Memory.store
      split_ifs with h1 h2
      · refine List.pairwise_cons.mpr ⟨fun p hp => ?_, List.pairwise_cons.mpr hs⟩
        rcases List.mem_cons.mp hp with h | h
        · exact h ▸ h1
        · exact lt_trans h1 (hs.1 p h)
      · exact List.pairwise_cons.mpr ⟨fun p hp => h2 ▸ hs.1 p hp, hs.2⟩
      · refine List.pairwise_cons.mpr ⟨fun p hp => ?_, ih hs.2⟩
        rcases Memory.mem_store hp with h | h
        · exact h ▸ lt_of_le_of_ne (not_lt.mp h1) (Ne.symm h2)
        · exact hs.1 p h
  · rcases Memory.mem_store hp with h | h
    · exact h ▸ ha
    · exact hm.2 p h

/-! ## Physical memory -/

variable (s : State)

theorem State.physRead_congr {s t : State} (h : t.mem = s.mem) (pa : PhysAddr) : t.physRead pa = s.physRead pa := by
  rw [State.physRead, State.physRead, h]

@[simp] theorem State.physRead_physWrite_same (pa : PhysAddr) (v : Byte) : (s.physWrite pa v).physRead pa = v := by
  simp [State.physRead, Memory.byteAt_store_same]

theorem State.physRead_physWrite_ne {pa pb : PhysAddr} (h : pb ≠ pa) (v : Byte) :
    (s.physWrite pa v).physRead pb = s.physRead pb := by
  have : pb.toNat ≠ pa.toNat := fun e => h (BitVec.eq_of_toNat_eq e)
  simp [State.physRead, Memory.byteAt_store_ne this]

/-! ## Translation -/

/-- The mapping's name and what it sees are all a translation depends on. -/
theorem State.translate_congr {s t : State} (ht : t.translation = s.translation) (hx : t.xpc = s.xpc) (hu : t.su = s.su)
    (hi : t.io = s.io) (hp : t.platform = s.platform) (a : Word) : t.translate a = s.translate a := by
  rw [State.translate, State.translate, ht, hx, hu, hi, hp]

theorem State.translate_default (h : s.translation = none) (a : Word) :
    s.translate a = segmentTranslate ⟨s.xpc, s.su, s.platform, s.io⟩ a := by
  rw [State.translate, h, translateOf]

@[simp] theorem State.translate_physWrite (pa : PhysAddr) (v : Byte) (a : Word) :
    (s.physWrite pa v).translate a = s.translate a := rfl

@[simp] theorem State.translate_memWrite8 (a : Word) (v : Byte) (b : Word) :
    (s.memWrite8 a v).translate b = s.translate b := rfl

/-- The default does not translate the low twelve bits of an address. -/
theorem segmentTranslate_low (v : MmuView) (a : Word) : (segmentTranslate v a).toNat % 4096 = a.toNat % 4096 := by
  have h : ∀ g : BitVec 20, (g <<< 12).toNat % 4096 = 0 := by
    intro g
    rw [BitVec.toNat_shiftLeft, Nat.shiftLeft_eq]
    omega
  have ha := a.isLt
  have hg := h ((v.segment a).setWidth 20)
  rw [segmentTranslate, BitVec.toNat_add, BitVec.toNat_setWidth]
  omega

/-- By the default, two addresses with different low twelve bits are different places. -/
theorem State.translate_ne (hd : s.translation = none) {a b : Word} (h : a.toNat % 4096 ≠ b.toNat % 4096) :
    s.translate a ≠ s.translate b := by
  intro e
  rw [s.translate_default hd, s.translate_default hd] at e
  have ha := segmentTranslate_low ⟨s.xpc, s.su, s.platform, s.io⟩ a
  have hb := segmentTranslate_low ⟨s.xpc, s.su, s.platform, s.io⟩ b
  rw [e] at ha
  omega

/-- By the default, the two bytes of a word are different places. -/
theorem State.translate_succ_ne (hd : s.translation = none) (a : Word) : s.translate (a + 1) ≠ s.translate a := by
  apply State.translate_ne _ hd
  have ha := a.isLt
  rw [BitVec.toNat_add, show (1 : Word).toNat = 1 from rfl]
  omega

/-! ## Logical memory -/

theorem State.memRead8_congr {s t : State} (hm : t.mem = s.mem) (ht : t.translation = s.translation) (hx : t.xpc = s.xpc)
    (hu : t.su = s.su) (hi : t.io = s.io) (hp : t.platform = s.platform) (a : Word) : t.memRead8 a = s.memRead8 a := by
  rw [State.memRead8, State.memRead8, State.translate_congr ht hx hu hi hp, State.physRead_congr hm]

@[simp] theorem State.memRead8_memWrite8_same (a : Word) (v : Byte) : (s.memWrite8 a v).memRead8 a = v := by
  rw [State.memRead8, State.translate_memWrite8, State.memWrite8, State.physRead_physWrite_same]

theorem State.memRead8_memWrite8_ne {a b : Word} (h : s.translate b ≠ s.translate a) (v : Byte) :
    (s.memWrite8 a v).memRead8 b = s.memRead8 b := by
  rw [State.memRead8, State.translate_memWrite8, State.memWrite8, State.physRead_physWrite_ne _ h, State.memRead8]

theorem State.memRead8_memWrite16_low {a : Word} (h : s.translate a ≠ s.translate (a + 1)) (v : Word) :
    (s.memWrite16 a v).memRead8 a = loByte v := by
  rw [State.memWrite16, State.memRead8_memWrite8_ne (s.memWrite8 a (loByte v)) h, State.memRead8_memWrite8_same]

theorem State.memRead8_memWrite16_high (a : Word) (v : Word) :
    (s.memWrite16 a v).memRead8 (a + 1) = hiByte v := by
  rw [State.memWrite16, State.memRead8_memWrite8_same]

theorem State.physRead_memWrite8_ne {pa : PhysAddr} {a : Word} (h : pa ≠ s.translate a) (v : Byte) :
    (s.memWrite8 a v).physRead pa = s.physRead pa := by
  rw [State.memWrite8, State.physRead_physWrite_ne _ h]

theorem State.physRead_memWrite16_ne {pa : PhysAddr} {a : Word} (h : pa ≠ s.translate a)
    (h' : pa ≠ s.translate (a + 1)) (v : Word) : (s.memWrite16 a v).physRead pa = s.physRead pa := by
  rw [State.memWrite16, State.physRead_memWrite8_ne (s.memWrite8 a (loByte v)) h', State.physRead_memWrite8_ne _ h]

/-! ## The canonical form is kept -/

theorem State.physWrite_wf {s : State} (h : s.mem.wf) (pa : PhysAddr) (v : Byte) : (s.physWrite pa v).mem.wf :=
  Memory.store_wf h pa.isLt v

theorem State.physWrite16_wf {s : State} (h : s.mem.wf) (p : Byte) (a v : Word) : (s.physWrite16 p a v).mem.wf :=
  State.physWrite_wf (State.physWrite_wf h _ _) _ _

theorem State.memWrite8_wf {s : State} (h : s.mem.wf) (a : Word) (v : Byte) : (s.memWrite8 a v).mem.wf :=
  State.physWrite_wf h _ _

theorem State.memWrite16_wf {s : State} (h : s.mem.wf) (a v : Word) : (s.memWrite16 a v).mem.wf :=
  State.memWrite8_wf (State.memWrite8_wf h _ _) _ _

theorem State.ioWrite8_mem (sp : IoSpace) (a : Word) (v : Byte) : (s.ioWrite8 sp a v).mem = s.mem := by
  unfold State.ioWrite8
  split
  · rfl
  · split <;> rfl

theorem State.dataRead8_mem (a : Word) : (s.dataRead8 a).2.mem = s.mem := by
  unfold State.dataRead8
  split <;> rfl

theorem State.dataRead16_mem (a : Word) : (s.dataRead16 a).2.mem = s.mem := by
  simp only [State.dataRead16, State.dataRead8_mem]

theorem State.dataWrite8_wf {s : State} (h : s.mem.wf) (a : Word) (v : Byte) : (s.dataWrite8 a v).mem.wf := by
  unfold State.dataWrite8
  split
  · exact State.memWrite8_wf h a v
  · rwa [State.ioWrite8_mem]

theorem State.dataWrite16_wf {s : State} (h : s.mem.wf) (a v : Word) : (s.dataWrite16 a v).mem.wf :=
  State.dataWrite8_wf (State.dataWrite8_wf h _ _) _ _

theorem State.push16_wf {s : State} (h : s.mem.wf) (v : Word) : (s.push16 v).mem.wf :=
  State.memWrite8_wf (State.memWrite8_wf h _ _) _ _

theorem State.push8_wf {s : State} (h : s.mem.wf) (v : Byte) : (s.push8 v).mem.wf := State.memWrite8_wf h _ _

theorem State.takeInterrupt_wf {s : State} (h : s.mem.wf) (r : IntRequest) (b : Bool) :
    (s.takeInterrupt r b).mem.wf := by
  rw [State.takeInterrupt_mem]
  exact State.push16_wf h s.pc

theorem State.putBytes_wf {s : State} (h : s.mem.wf) (a : Word) (bs : List Byte) : (s.putBytes a bs).mem.wf := by
  induction bs generalizing s a with
  | nil => exact h
  | cons b t ih => exact ih (State.memWrite8_wf h a b) (a + 1)

theorem State.withFetchWord_wf {s : State} (h : s.mem.wf) (nbits w : Nat) : (s.withFetchWord nbits w).mem.wf := by
  unfold State.withFetchWord State.placeWord
  generalize tableBytes nbits w = bs
  exact State.putBytes_wf h s.pc bs

end Sys2Proof.Machine
end

