-- ==== Sys2Proof/Laws/Ops.lean ====
section
/-! SUPPORT. What each shared operation does, once: accesses, register writes, flag writes, the stack. -/

namespace Sys2Proof.Machine

variable (s : State)

/-! ## Words -/

theorem mkWord_toNat (hi lo : Byte) : (mkWord hi lo).toNat = lo.toNat + 256 * hi.toNat := by
  have h := lo.isLt
  rw [mkWord, BitVec.toNat_append, Nat.shiftLeft_eq, Nat.mul_comm, ← Nat.two_pow_add_eq_or_of_lt h]
  omega

theorem loByte_toNat (w : Word) : (loByte w).toNat = w.toNat % 256 := by
  simp [loByte]

theorem hiByte_toNat (w : Word) : (hiByte w).toNat = w.toNat / 256 := by
  have := w.isLt
  simp [hiByte, Nat.shiftRight_eq_div_pow]
  omega

theorem loByte_eq (w : Word) : loByte w = w.setWidth 8 := by
  apply BitVec.eq_of_toNat_eq
  simp [loByte_toNat]

theorem hiByte_eq (w : Word) : hiByte w = (w >>> 8).setWidth 8 := by
  apply BitVec.eq_of_toNat_eq
  have := w.isLt
  simp [hiByte_toNat, Nat.shiftRight_eq_div_pow]
  omega

@[simp] theorem mkWord_hi_lo (w : Word) : mkWord (hiByte w) (loByte w) = w := by
  apply BitVec.eq_of_toNat_eq
  rw [mkWord_toNat, hiByte_toNat, loByte_toNat]
  omega

@[simp] theorem hiByte_mkWord (hi lo : Byte) : hiByte (mkWord hi lo) = hi := by
  apply BitVec.eq_of_toNat_eq
  have := lo.isLt
  rw [hiByte_toNat, mkWord_toNat]
  omega

@[simp] theorem loByte_mkWord (hi lo : Byte) : loByte (mkWord hi lo) = lo := by
  apply BitVec.eq_of_toNat_eq
  have := lo.isLt
  rw [loByte_toNat, mkWord_toNat]
  omega

theorem memRead16_toNat (a : Word) : (s.memRead16 a).toNat = s.wordAt a := mkWord_toNat _ _

theorem ioAddr_eq (sp : IoSpace) (a : Word) : ioAddr sp a = ioTarget sp a := by
  cases sp
  · show zext16 (loByte a) = a &&& 0x00FF
    apply BitVec.eq_of_toNat_eq
    have h : (0x00FF : Word).toNat = 2 ^ 8 - 1 := rfl
    rw [BitVec.toNat_and, h, Nat.and_two_pow_sub_one_eq_mod]
    simp [zext16, loByte]
    omega
  · rfl

/-! ## Data accesses -/

theorem State.dataRead8_reads (a : Word) : ReadsByte s (s.dataRead8 a).2 a (s.dataRead8 a).1 := by
  unfold ReadsByte State.dataRead8
  cases h : s.ctx.iop with
  | none => exact ⟨rfl, rfl⟩
  | some sp => exact ⟨congrArg _ (ioAddr_eq sp a), by simp only [State.ioRead8, ioAddr_eq]⟩

/-- A data read changes the record of I/O accesses at most. -/
theorem State.dataRead8_rest (a : Word) : (s.dataRead8 a).2 = { s with io := (s.dataRead8 a).2.io } := by
  unfold State.dataRead8
  split <;> rfl

theorem State.dataRead16_reads (a : Word) : ReadsWord s (s.dataRead16 a).2 a (s.dataRead16 a).1 :=
  ⟨_, _, _, s.dataRead8_reads a, (s.dataRead8 a).2.dataRead8_reads (a + 1), mkWord_toNat _ _⟩

theorem State.dataRead16_rest (a : Word) : (s.dataRead16 a).2 = { s with io := (s.dataRead16 a).2.io } := by
  have h := (s.dataRead8 a).2.dataRead8_rest (a + 1)
  have h' := s.dataRead8_rest a
  show ((s.dataRead8 a).2.dataRead8 (a + 1)).2 = { s with io := ((s.dataRead8 a).2.dataRead8 (a + 1)).2.io }
  rw [h]
  simp only
  rw [h']

theorem State.memWrite8_stores (a : Word) (v : Byte) : StoresMemByte s (s.memWrite8 a v) a v where
  byte := s.memRead8_memWrite8_same a v
  rest := rfl
  mem pa h := s.physRead_memWrite8_ne (by simpa using h) v

theorem State.dataWrite8_stores (a : Word) (v : Byte) : StoresByte s (s.dataWrite8 a v) a v := by
  unfold StoresByte State.dataWrite8
  cases h : s.ctx.iop with
  | none => exact s.memWrite8_stores a v
  | some sp =>
    cases sp with
    | internal =>
      simp only [State.ioWrite8, ioAddr_eq, ioTarget, Platform.write]
      cases s.platform.ports.lookup (loByte a) <;> rfl
    | external =>
      simp only [State.ioWrite8, ioAddr]
      split <;> simp_all

/-- A data write changes memory, the record of I/O accesses and the platform's registers at most. -/
theorem State.dataWrite8_rest (a : Word) (v : Byte) :
    s.dataWrite8 a v = { s with
      mem := (s.dataWrite8 a v).mem, io := (s.dataWrite8 a v).io, platform := (s.dataWrite8 a v).platform } := by
  unfold State.dataWrite8
  split
  · rfl
  · unfold State.ioWrite8
    split
    · rfl
    · split <;> rfl

theorem State.dataWrite16_rest (a v : Word) :
    s.dataWrite16 a v = { s with
      mem := (s.dataWrite16 a v).mem, io := (s.dataWrite16 a v).io, platform := (s.dataWrite16 a v).platform } := by
  have h := (s.dataWrite8 a (loByte v)).dataWrite8_rest (a + 1) (hiByte v)
  have h' := s.dataWrite8_rest a (loByte v)
  unfold State.dataWrite16
  rw [h]
  simp only
  rw [h']

theorem State.dataWrite16_stores (a v : Word) : StoresWord s (s.dataWrite16 a v) a v := by
  refine ⟨s.dataWrite8 a (loByte v), ?_, ?_⟩
  · rw [← loByte_eq]; exact s.dataWrite8_stores a _
  · rw [← hiByte_eq]; exact (s.dataWrite8 a (loByte v)).dataWrite8_stores (a + 1) _

/-- The two bytes of a word are different places where the mapping keeps them apart. -/
theorem State.apart_succ_ne {a : Word} (h : s.apart a (a + 1)) : s.translate a ≠ s.translate (a + 1) :=
  h.elim (fun hd => (s.translate_succ_ne hd a).symm) id

theorem State.memWrite16_stores (a v : Word) : StoresMemWord s (s.memWrite16 a v) a v where
  low h := by rw [← loByte_eq]; exact s.memRead8_memWrite16_low (s.apart_succ_ne h) v
  high := by rw [← hiByte_eq]; exact s.memRead8_memWrite16_high a v
  rest := rfl
  mem pa h := by
    simp only [List.mem_cons, List.not_mem_nil, or_false, not_or] at h
    exact s.physRead_memWrite16_ne h.1 h.2 v

/-! ## The stack -/

theorem sub_two_succ (a : Word) : a - 2 + 1 = a - 1 := by bv_omega

/-- The two bytes of a pushed word are different places where the mapping keeps them apart. -/
theorem State.apart_pred_ne {a : Word} (h : s.apart (a - 1) (a - 2)) : s.translate (a - 1) ≠ s.translate (a - 2) :=
  h.elim (fun hd => by have := s.translate_succ_ne hd (a - 2); rwa [sub_two_succ] at this) id

theorem State.push16_pushes (v : Word) : PushedWord s (s.push16 v) v where
  high h := by
    rw [← hiByte_eq]
    have h := s.apart_pred_ne h
    show ((s.memWrite8 (s.sp - 1) (hiByte v)).memWrite8 (s.sp - 2) (loByte v)).physRead _ = _
    rw [State.physRead_memWrite8_ne (s.memWrite8 (s.sp - 1) (hiByte v)) h]
    exact s.memRead8_memWrite8_same _ _
  low := by
    rw [← loByte_eq]
    exact (s.memWrite8 (s.sp - 1) (hiByte v)).memRead8_memWrite8_same (s.sp - 2) (loByte v)
  sp := rfl
  mem pa h := by
    simp only [List.mem_cons, List.not_mem_nil, or_false, not_or] at h
    show ((s.memWrite8 (s.sp - 1) (hiByte v)).memWrite8 (s.sp - 2) (loByte v)).physRead _ = _
    rw [State.physRead_memWrite8_ne (s.memWrite8 (s.sp - 1) (hiByte v)) h.2, s.physRead_memWrite8_ne h.1]

/-- A push changes memory and SP. -/
theorem State.push16_rest (v : Word) : s.push16 v = { s with mem := (s.push16 v).mem, sp := s.sp - 2 } := rfl

/-- A pushed word is the word on top of the stack, where the mapping keeps its bytes apart. -/
theorem PushedWord.top16 {s t : State} {v : Word} (h : PushedWord s t v) (ha : s.apart (s.sp - 1) (s.sp - 2))
    (ht : ∀ a, t.translate a = s.translate a) : t.top16 = v := by
  have e (w : Word) : t.memRead8 w = t.physRead (s.translate w) := by rw [State.memRead8, ht]
  rw [State.top16, State.memRead16, e, e, h.sp, sub_two_succ, h.high ha, h.low, ← hiByte_eq, ← loByte_eq, mkWord_hi_lo]

theorem State.callTo_translate (v a : Word) : (s.callTo v).translate a = s.translate a :=
  State.translate_congr rfl rfl rfl rfl rfl a

theorem State.takeInterrupt_translate (r : IntRequest) (b : Bool) (a : Word) :
    (s.takeInterrupt r b).translate a = s.translate a := State.translate_congr rfl rfl rfl rfl rfl a

/-- Entering an interrupt by the default pushes PC. -/
theorem State.takeInterrupt_pushes (r : IntRequest) (b : Bool) : PushedWord s (s.takeInterrupt r b) s.pc :=
  let h := s.push16_pushes s.pc
  ⟨h.high, h.low, h.sp, h.mem⟩

/-- Entering an interrupt by the default changes memory, SP, IP, PC, the deferral, the memory of an I/O prefix and the
pending violation. -/
theorem State.takeInterrupt_rest (r : IntRequest) (b : Bool) : s.takeInterrupt r b = { s with
    mem := (s.takeInterrupt r b).mem, sp := s.sp - 2, ip := pushField s.ip r.prio, pc := s.vector r, deferIrq := false
    lastHadIoPrefix := false, smvPending := s.smvPending && !b } := rfl

/-- A call pushes PC. -/
theorem State.callTo_pushes (v : Word) : PushedWord s (s.callTo v) s.pc :=
  let h := s.push16_pushes s.pc
  ⟨h.high, h.low, h.sp, h.mem⟩

/-! ## Repeating -/

/-- The end of an iteration changes PC at most. -/
theorem State.again_rest : s.again = { s with pc := s.again.pc } := by
  unfold State.again
  split <;> rfl

/-! ## Banks -/

theorem Bank.get_set_same (k : Bank) (r : Reg8) (v : Byte) : (k.set r v).get r = v := by cases r <;> rfl

theorem Bank.get_set_ne (k : Bank) {q r : Reg8} (h : q ≠ r) (v : Byte) : (k.set r v).get q = k.get q := by
  cases r <;> cases q <;> first | rfl | exact absurd rfl h

@[simp] theorem Bank.set_f (k : Bank) (r : Reg8) (v : Byte) : (k.set r v).f = k.f := by cases r <;> rfl

theorem Bank.pair_setPair_same (k : Bank) (p : Pair) (v : Word) : (k.setPair p v).pair p = v := by
  cases p <;> exact mkWord_hi_lo v

theorem Bank.get_setPair_ne (k : Bank) {p : Pair} {q : Reg8} (h : q ∉ p.regs) (v : Word) :
    (k.setPair p v).get q = k.get q := by
  cases p <;> cases q <;> first | rfl | exact absurd (by decide) h

@[simp] theorem Bank.setPair_f (k : Bank) (p : Pair) (v : Word) : (k.setPair p v).f = k.f := by cases p <;> rfl

@[simp] theorem Bank.get_updFlags (k : Bank) (w : FlagUpd) (x : BitVec 4) (q : Reg8) :
    (k.updFlags w x).get q = k.get q := by
  cases q <;> rfl

/-! ## Register writes -/

/-- A change of the destination bank that keeps its flags writes the registers it changes. -/
theorem State.updDest_writes (f : Bank → Bank) (rs : List Reg8) (hr : ∀ k q, q ∉ rs → (f k).get q = k.get q)
    (hf : ∀ k, (f k).f = k.f) : WritesRegs rs s (s.updDest f) where
  rest := rfl
  mem _ := rfl
  other := by unfold State.otherBank State.updDest; cases s.ctx.altd <;> rfl
  regs q h := by
    unfold State.destBank State.updDest
    cases s.ctx.altd
    · exact hr _ q h
    · exact hr _ q h
  flags := by
    unfold State.destBank State.updDest
    cases s.ctx.altd
    · exact hf _
    · exact hf _

theorem State.updDest_destBank (f : Bank → Bank) :
    (s.updDest f).destBank s.ctx.altd = f (s.destBank s.ctx.altd) := by
  unfold State.destBank State.updDest
  cases s.ctx.altd <;> rfl

theorem State.dst8_get (r : Reg8) (v : Byte) : ((s.dst8 r v).destBank s.ctx.altd).get r = v := by
  rw [State.dst8, State.updDest_destBank, Bank.get_set_same]

theorem State.dst8_writes (r : Reg8) (v : Byte) : WritesRegs [r] s (s.dst8 r v) :=
  s.updDest_writes _ _ (fun k _ h => k.get_set_ne (by simpa using h) v) (fun k => k.set_f r v)

theorem State.dst16_pair (p : Pair) (v : Word) : ((s.dst16 p v).destBank s.ctx.altd).pair p = v := by
  rw [State.dst16, State.updDest_destBank, Bank.pair_setPair_same]

theorem State.dst16_writes (p : Pair) (v : Word) : WritesRegs p.regs s (s.dst16 p v) :=
  s.updDest_writes _ _ (fun k _ h => k.get_setPair_ne h v) (fun k => k.setPair_f p v)

theorem State.setIdx_idx (x : Idx) (v : Word) : (s.setIdx x v).idx x = v := by cases x <;> rfl

theorem State.setIdx_writes (x : Idx) (v : Word) : WritesIdx x s (s.setIdx x v) where
  rest := rfl
  mem _ := rfl
  idx y h := by cases x <;> cases y <;> first | rfl | exact absurd rfl h

/-! ## Flag writes -/

theorem State.setFlags_destBank (w : FlagUpd) (altd : Bool) (h : altd = s.ctx.altd) :
    (s.setFlags w).destBank altd = (s.destBank altd).updFlags w (Config.flagBits s.draws) := by
  subst h
  exact s.updDest_destBank (fun k => k.updFlags w (Config.flagBits s.draws))

theorem State.setFlags_destFlags (w : FlagUpd) (altd : Bool) (h : altd = s.ctx.altd) :
    (s.setFlags w).destFlags altd = (s.destFlags altd).update w (Config.flagBits s.draws) := by
  rw [State.destFlags, s.setFlags_destBank w altd h]
  rfl

theorem State.setFlags_writes (w : FlagUpd) : WritesRegsFlags [] s (s.setFlags w) where
  rest := rfl
  mem _ := rfl
  other := by unfold State.otherBank State.setFlags State.updDest; cases s.ctx.altd <;> rfl
  regs q _ := by rw [s.setFlags_destBank w _ rfl, Bank.get_updFlags]

theorem WritesRegs.ctx {rs : List Reg8} {s t : State} (h : WritesRegs rs s t) : t.ctx = s.ctx := by rw [h.rest]

/-- Registers written, then flags. -/
theorem WritesRegs.setFlags {rs : List Reg8} {s t : State} (h : WritesRegs rs s t) (w : FlagUpd) :
    WritesRegsFlags rs s (t.setFlags w) where
  rest := by rw [h.rest]; rfl
  mem pa := h.mem pa
  other := by rw [← h.other, ← h.ctx]; exact (t.setFlags_writes w).other
  regs q hq := by rw [t.setFlags_destBank w _ (by rw [h.ctx]), Bank.get_updFlags, h.regs q hq]

/-- The index register written, then flags. -/
theorem WritesIdx.setFlags {x : Idx} {s t : State} (h : WritesIdx x s t) (w : FlagUpd) :
    WritesIdxFlags x s (t.setFlags w) where
  rest := by rw [h.rest]; rfl
  mem pa := h.mem pa
  idx y hy := by cases y <;> exact h.idx _ hy
  other := by
    have hc : t.ctx = s.ctx := by rw [h.rest]
    have ho := (t.setFlags_writes w).other
    rw [hc] at ho
    rw [ho, h.rest]
    rfl
  regs q := by
    have hc : t.ctx = s.ctx := by rw [h.rest]
    rw [t.setFlags_destBank w _ (by rw [hc]), Bank.get_updFlags, h.rest]
    rfl

/-- The flags of the destination bank after registers and flags are written. -/
theorem WritesRegs.setFlags_flags {rs : List Reg8} {s t : State} (h : WritesRegs rs s t) (w : FlagUpd) :
    (t.setFlags w).destFlags s.ctx.altd = (s.destFlags s.ctx.altd).update w (Config.flagBits t.draws) := by
  rw [t.setFlags_destFlags w _ (by rw [h.ctx]), State.destFlags, State.destFlags, h.flags]

/-- A flag write leaves the registers of the destination bank. -/
theorem WritesRegs.setFlags_get {rs : List Reg8} {s t : State} (h : WritesRegs rs s t) (w : FlagUpd) (q : Reg8) :
    ((t.setFlags w).destBank s.ctx.altd).get q = (t.destBank s.ctx.altd).get q := by
  rw [t.setFlags_destBank w _ (by rw [h.ctx]), Bank.get_updFlags]

/-- A flag write leaves the pairs of the destination bank. -/
theorem WritesRegs.setFlags_pair {rs : List Reg8} {s t : State} (h : WritesRegs rs s t) (w : FlagUpd) (p : Pair) :
    ((t.setFlags w).destBank s.ctx.altd).pair p = (t.destBank s.ctx.altd).pair p := by
  rw [t.setFlags_destBank w _ (by rw [h.ctx])]
  cases p <;> rfl

/-- The flags of the destination bank after an index register and flags are written. -/
theorem WritesIdx.setFlags_flags {x : Idx} {s t : State} (h : WritesIdx x s t) (w : FlagUpd) :
    (t.setFlags w).destFlags s.ctx.altd = (s.destFlags s.ctx.altd).update w (Config.flagBits t.draws) := by
  rw [t.setFlags_destFlags w _ (by rw [h.rest]), h.rest]
  rfl

/-! ## LDP addresses -/

theorem physOf_toNat (p : Byte) (a : Word) : (physOf p a).toNat = p.toNat % 16 * 65536 + a.toNat := by
  have h := a.isLt
  rw [physOf, BitVec.toNat_append, Nat.shiftLeft_eq, Nat.mul_comm, ← Nat.two_pow_add_eq_or_of_lt h]
  simp
  omega

/-- The two spellings of an LDP address. -/
theorem physOf_eq_ldpAddr (s : State) (a : Word) : physOf s.main.a a = s.ldpAddr a := by
  apply BitVec.eq_of_toNat_eq
  have h := a.isLt
  have h15 : (15#8).toNat = 2 ^ 4 - 1 := rfl
  have ha : (s.main.a &&& 15#8).toNat = s.main.a.toNat % 16 := by
    rw [BitVec.toNat_and, h15, Nat.and_two_pow_sub_one_eq_mod]
  have hw : (BitVec.setWidth 20 a).toNat = a.toNat := by simp; omega
  have hs : (((s.main.a &&& 15#8).setWidth 20) <<< 16).toNat = 2 ^ 16 * (s.main.a.toNat % 16) := by
    rw [BitVec.toNat_shiftLeft, BitVec.toNat_setWidth, ha, Nat.shiftLeft_eq]
    omega
  rw [physOf_toNat, State.ldpAddr]
  show _ = ((((s.main.a &&& 15#8).setWidth 20) <<< 16) ||| BitVec.setWidth 20 a).toNat
  rw [BitVec.toNat_or, hw, hs, ← Nat.two_pow_add_eq_or_of_lt h]
  omega

/-- The two bytes of an LDP word are different places. -/
theorem ldpAddr_succ_ne (s : State) (a : Word) : s.ldpAddr (a + 1) ≠ s.ldpAddr a := by
  rw [← physOf_eq_ldpAddr, ← physOf_eq_ldpAddr]
  intro h
  have e := congrArg BitVec.toNat h
  rw [physOf_toNat, physOf_toNat] at e
  exact absurd (BitVec.eq_of_toNat_eq (Nat.add_left_cancel e)) (by bv_omega)

/-! ## Bits as numbers -/

theorem msb8_iff (b : Byte) : b.msb = true ↔ 128 ≤ b.toNat := by
  rw [BitVec.msb_eq_decide]
  simp

theorem msb16_iff (w : Word) : w.msb = true ↔ 32768 ≤ w.toNat := by
  rw [BitVec.msb_eq_decide]
  simp

theorem zero8_iff (b : Byte) : (b == 0) = true ↔ b.toNat = 0 := by
  rw [beq_iff_eq, ← BitVec.toNat_inj]
  simp

theorem zero16_iff (w : Word) : (w == 0) = true ↔ w.toNat = 0 := by
  rw [beq_iff_eq, ← BitVec.toNat_inj]
  simp

theorem logical8_iff (r : Byte) : logical8 r = true ↔ 16 ≤ r.toNat := by
  have := r.isLt
  rw [logical8, bne_iff_ne, ne_eq, ← BitVec.toNat_inj]
  simp [Nat.shiftRight_eq_div_pow]
  omega

theorem logical16_iff (r : Word) : logical16 r = true ↔ 4096 ≤ r.toNat := by
  have := r.isLt
  rw [logical16, bne_iff_ne, ne_eq, ← BitVec.toNat_inj]
  simp [Nat.shiftRight_eq_div_pow]
  omega

/-! ## The platform's arguments -/

@[simp] theorem State.takeInterruptBy_default (s : State) (r : IntRequest) (b : Bool) :
    s.takeInterruptBy enterInterrupt r b = s.takeInterrupt r b := rfl

/-- The default of UserModeRestriction is never. -/
theorem State.restriction_none {s : State} (h : s.userRestriction = none) : s.restriction = fun _ _ => false := by
  unfold State.restriction; rw [h]

theorem State.nextBoundary_translate (s : State) (a : Word) : s.nextBoundary.translate a = s.translate a :=
  State.translate_congr rfl rfl rfl rfl rfl a

/-- Only the Rabbit 3000A has a restriction. -/
theorem State.isRestricted_of_ne {s : State} (h : s.variant ≠ .r3000a) (f : UserModeRestriction) (i : Instr) :
    s.isRestricted f i = false := by
  unfold State.isRestricted
  cases hv : s.variant with
  | r2000 => rfl
  | r3000 => rfl
  | r3000a => exact absurd hv h

end Sys2Proof.Machine
end

