-- ==== Sys2Proof/Tests/Slice0.lean ====
section
/-! SUPPORT. The model's own tests: the well-formedness check, the decoding of every constructor from bytes written out
from the spec, one step of vectors of 95_test_vectors.md, and for every statement with hypotheses a witness that meets
them. -/

namespace Sys2Proof.Tests

open Machine

/-! ## Well-formedness (00_scope.md R3; 40_ld8.md R201): what a chip lacks is refused -/

/-- The instructions only the Rabbit 3000A has. -/
def only3000ARows : List Instr :=
  [.push_SU, .pop_SU, .setusr, .sures, .rdmode, .syscall, .idet, .ldisr, .lddsr, .lsir, .lsdr, .lsidr, .lsddr, .uma, .ums]

theorem test_wf_additions_ill_formed_on_r2000 : only3000ARows.all (fun i => !i.existsOn .r2000) = true := by decide
theorem test_wf_additions_ill_formed_on_r3000 : only3000ARows.all (fun i => !i.existsOn .r3000) = true := by decide
theorem test_wf_additions_well_formed_on_r3000a : only3000ARows.all (fun i => i.existsOn .r3000a) = true := by decide
theorem test_wf_ld_E_E_ill_formed_on_r3000a : Instr.existsOn .r3000a .ld_E_E = false := by decide
theorem test_wf_ld_E_E_well_formed : Instr.existsOn .r2000 .ld_E_E = true := by decide
theorem test_wf_common_well_formed : Instr.existsOn .r2000 (.ld_atIXd_n 0xFF 0xFF) = true := by decide

/-! ## Decoding -/

/-- Rows of spec/opcode_table.json on the main page, bytes written from the Encoding line of each rule. -/
def words_main0 : List (List Byte × Instr) :=
  [([0x00], .nop), ([0x01, 0x34, 0x12], .ld_BC_mn 0x1234), ([0x02], .ld_atBC_A), ([0x03], .inc_BC), ([0x04], .inc_B),
   ([0x05], .dec_B), ([0x06, 0x7F], .ld_B_n 0x7F), ([0x07], .rlca), ([0x08], .ex_AF_AF'), ([0x09], .add_HL_BC),
   ([0x0A], .ld_A_atBC), ([0x0B], .dec_BC), ([0x0C], .inc_C), ([0x0D], .dec_C), ([0x0E, 0x7F], .ld_C_n 0x7F),
   ([0x0F], .rrca), ([0x10, 0xFE], .djnz_e 0xFE), ([0x11, 0x34, 0x12], .ld_DE_mn 0x1234), ([0x12], .ld_atDE_A),
   ([0x13], .inc_DE), ([0x14], .inc_D), ([0x15], .dec_D), ([0x16, 0x7F], .ld_D_n 0x7F), ([0x17], .rla),
   ([0x18, 0xFE], .jr_e 0xFE), ([0x19], .add_HL_DE), ([0x1A], .ld_A_atDE), ([0x1B], .dec_DE), ([0x1C], .inc_E),
   ([0x1D], .dec_E), ([0x1E, 0x7F], .ld_E_n 0x7F), ([0x1F], .rra), ([0x20, 0xFE], .jr_NZ_e 0xFE),
   ([0x21, 0x34, 0x12], .ld_HL_mn 0x1234), ([0x22, 0x34, 0x12], .ld_atMn_HL 0x1234), ([0x23], .inc_HL),
   ([0x24], .inc_H), ([0x25], .dec_H), ([0x26, 0x7F], .ld_H_n 0x7F), ([0x27, 0x05], .add_SP_d 0x05),
   ([0x28, 0xFE], .jr_Z_e 0xFE), ([0x29], .add_HL_HL), ([0x2A, 0x34, 0x12], .ld_HL_atMn 0x1234), ([0x2B], .dec_HL),
   ([0x2C], .inc_L), ([0x2D], .dec_L), ([0x2E, 0x7F], .ld_L_n 0x7F), ([0x2F], .cpl)]

theorem test_decode_words_main0 :
    words_main0.map (fun p => decode .r3000a p.1) = words_main0.map (fun p => .ok (p.2, [])) := by rfl

/-- Rows of spec/opcode_table.json on the main page, bytes written from the Encoding line of each rule. -/
def words_main1 : List (List Byte × Instr) :=
  [([0x30, 0xFE], .jr_NC_e 0xFE), ([0x31, 0x34, 0x12], .ld_SP_mn 0x1234), ([0x32, 0x34, 0x12], .ld_atMn_A 0x1234),
   ([0x33], .inc_SP), ([0x34], .inc_atHL), ([0x35], .dec_atHL), ([0x36, 0x7F], .ld_atHL_n 0x7F), ([0x37], .scf),
   ([0x38, 0xFE], .jr_C_e 0xFE), ([0x39], .add_HL_SP), ([0x3A, 0x34, 0x12], .ld_A_atMn 0x1234), ([0x3B], .dec_SP),
   ([0x3C], .inc_A), ([0x3D], .dec_A), ([0x3E, 0x7F], .ld_A_n 0x7F), ([0x3F], .ccf), ([0x40], .ld_B_B),
   ([0x41], .ld_B_C), ([0x42], .ld_B_D), ([0x43], .ld_B_E), ([0x44], .ld_B_H), ([0x45], .ld_B_L),
   ([0x46], .ld_B_atHL), ([0x47], .ld_B_A), ([0x48], .ld_C_B), ([0x49], .ld_C_C), ([0x4A], .ld_C_D),
   ([0x4B], .ld_C_E), ([0x4C], .ld_C_H), ([0x4D], .ld_C_L), ([0x4E], .ld_C_atHL), ([0x4F], .ld_C_A),
   ([0x50], .ld_D_B), ([0x51], .ld_D_C), ([0x52], .ld_D_D), ([0x53], .ld_D_E), ([0x54], .ld_D_H), ([0x55], .ld_D_L),
   ([0x56], .ld_D_atHL), ([0x57], .ld_D_A), ([0x58], .ld_E_B), ([0x59], .ld_E_C), ([0x5A], .ld_E_D), ([0x5B], .idet),
   ([0x5C], .ld_E_H), ([0x5D], .ld_E_L), ([0x5E], .ld_E_atHL), ([0x5F], .ld_E_A)]

theorem test_decode_words_main1 :
    words_main1.map (fun p => decode .r3000a p.1) = words_main1.map (fun p => .ok (p.2, [])) := by rfl

/-- Rows of spec/opcode_table.json on the main page, bytes written from the Encoding line of each rule. -/
def words_main2 : List (List Byte × Instr) :=
  [([0x60], .ld_H_B), ([0x61], .ld_H_C), ([0x62], .ld_H_D), ([0x63], .ld_H_E), ([0x64], .ld_H_H), ([0x65], .ld_H_L),
   ([0x66], .ld_H_atHL), ([0x67], .ld_H_A), ([0x68], .ld_L_B), ([0x69], .ld_L_C), ([0x6A], .ld_L_D),
   ([0x6B], .ld_L_E), ([0x6C], .ld_L_H), ([0x6D], .ld_L_L), ([0x6E], .ld_L_atHL), ([0x6F], .ld_L_A),
   ([0x70], .ld_atHL_B), ([0x71], .ld_atHL_C), ([0x72], .ld_atHL_D), ([0x73], .ld_atHL_E), ([0x74], .ld_atHL_H),
   ([0x75], .ld_atHL_L), ([0x76], .altd), ([0x77], .ld_atHL_A), ([0x78], .ld_A_B), ([0x79], .ld_A_C),
   ([0x7A], .ld_A_D), ([0x7B], .ld_A_E), ([0x7C], .ld_A_H), ([0x7D], .ld_A_L), ([0x7E], .ld_A_atHL),
   ([0x7F], .ld_A_A), ([0x80], .add_A_B), ([0x81], .add_A_C), ([0x82], .add_A_D), ([0x83], .add_A_E),
   ([0x84], .add_A_H), ([0x85], .add_A_L), ([0x86], .add_A_atHL), ([0x87], .add_A_A), ([0x88], .adc_A_B),
   ([0x89], .adc_A_C), ([0x8A], .adc_A_D), ([0x8B], .adc_A_E), ([0x8C], .adc_A_H), ([0x8D], .adc_A_L),
   ([0x8E], .adc_A_atHL), ([0x8F], .adc_A_A)]

theorem test_decode_words_main2 :
    words_main2.map (fun p => decode .r3000a p.1) = words_main2.map (fun p => .ok (p.2, [])) := by rfl

/-- Rows of spec/opcode_table.json on the main page, bytes written from the Encoding line of each rule. -/
def words_main3 : List (List Byte × Instr) :=
  [([0x90], .sub_B), ([0x91], .sub_C), ([0x92], .sub_D), ([0x93], .sub_E), ([0x94], .sub_H), ([0x95], .sub_L),
   ([0x96], .sub_atHL), ([0x97], .sub_A), ([0x98], .sbc_A_B), ([0x99], .sbc_A_C), ([0x9A], .sbc_A_D),
   ([0x9B], .sbc_A_E), ([0x9C], .sbc_A_H), ([0x9D], .sbc_A_L), ([0x9E], .sbc_A_atHL), ([0x9F], .sbc_A_A),
   ([0xA0], .and_B), ([0xA1], .and_C), ([0xA2], .and_D), ([0xA3], .and_E), ([0xA4], .and_H), ([0xA5], .and_L),
   ([0xA6], .and_atHL), ([0xA7], .and_A), ([0xA8], .xor_B), ([0xA9], .xor_C), ([0xAA], .xor_D), ([0xAB], .xor_E),
   ([0xAC], .xor_H), ([0xAD], .xor_L), ([0xAE], .xor_atHL), ([0xAF], .xor_A), ([0xB0], .or_B), ([0xB1], .or_C),
   ([0xB2], .or_D), ([0xB3], .or_E), ([0xB4], .or_H), ([0xB5], .or_L), ([0xB6], .or_atHL), ([0xB7], .or_A),
   ([0xB8], .cp_B), ([0xB9], .cp_C), ([0xBA], .cp_D), ([0xBB], .cp_E), ([0xBC], .cp_H), ([0xBD], .cp_L),
   ([0xBE], .cp_atHL), ([0xBF], .cp_A)]

theorem test_decode_words_main3 :
    words_main3.map (fun p => decode .r3000a p.1) = words_main3.map (fun p => .ok (p.2, [])) := by rfl

/-- Rows of spec/opcode_table.json on the main page, bytes written from the Encoding line of each rule. -/
def words_main4 : List (List Byte × Instr) :=
  [([0xC0], .ret_NZ), ([0xC1], .pop_BC), ([0xC2, 0x34, 0x12], .jp_NZ_mn 0x1234), ([0xC3, 0x34, 0x12], .jp_mn 0x1234),
   ([0xC4, 0x7F], .ld_HL_atSPn 0x7F), ([0xC5], .push_BC), ([0xC6, 0x7F], .add_A_n 0x7F),
   ([0xC7, 0x34, 0x12, 0x09], .ljp_x_mn 0x1234 0x09), ([0xC8], .ret_Z), ([0xC9], .ret),
   ([0xCA, 0x34, 0x12], .jp_Z_mn 0x1234), ([0xCC], .bool_HL), ([0xCD, 0x34, 0x12], .call_mn 0x1234),
   ([0xCE, 0x7F], .adc_A_n 0x7F), ([0xCF, 0x34, 0x12, 0x09], .lcall_x_mn 0x1234 0x09), ([0xD0], .ret_NC),
   ([0xD1], .pop_DE), ([0xD2, 0x34, 0x12], .jp_NC_mn 0x1234), ([0xD3], .ioi), ([0xD4, 0x7F], .ld_atSPn_HL 0x7F),
   ([0xD5], .push_DE), ([0xD6, 0x7F], .sub_n 0x7F), ([0xD7], .rst_10), ([0xD8], .ret_C), ([0xD9], .exx),
   ([0xDA, 0x34, 0x12], .jp_C_mn 0x1234), ([0xDB], .ioe), ([0xDC], .and_HL_DE), ([0xDE, 0x7F], .sbc_A_n 0x7F),
   ([0xDF], .rst_18), ([0xE0], .ret_LZ), ([0xE1], .pop_HL), ([0xE2, 0x34, 0x12], .jp_LZ_mn 0x1234),
   ([0xE3], .ex_DE'_HL), ([0xE4, 0x05], .ld_HL_atIXd 0x05), ([0xE5], .push_HL), ([0xE6, 0x7F], .and_n 0x7F),
   ([0xE7], .rst_20), ([0xE8], .ret_LO), ([0xE9], .jp_atHL), ([0xEA, 0x34, 0x12], .jp_LO_mn 0x1234),
   ([0xEB], .ex_DE_HL), ([0xEC], .or_HL_DE), ([0xEE, 0x7F], .xor_n 0x7F), ([0xEF], .rst_28), ([0xF0], .ret_P),
   ([0xF1], .pop_AF), ([0xF2, 0x34, 0x12], .jp_P_mn 0x1234)]

theorem test_decode_words_main4 :
    words_main4.map (fun p => decode .r3000a p.1) = words_main4.map (fun p => .ok (p.2, [])) := by rfl

/-- Rows of spec/opcode_table.json on the main page, bytes written from the Encoding line of each rule. -/
def words_main5 : List (List Byte × Instr) :=
  [([0xF3], .rl_DE), ([0xF4, 0x05], .ld_atIXd_HL 0x05), ([0xF5], .push_AF), ([0xF6, 0x7F], .or_n 0x7F),
   ([0xF7], .mul), ([0xF8], .ret_M), ([0xF9], .ld_SP_HL), ([0xFA, 0x34, 0x12], .jp_M_mn 0x1234), ([0xFB], .rr_DE),
   ([0xFC], .rr_HL), ([0xFE, 0x7F], .cp_n 0x7F), ([0xFF], .rst_38)]

theorem test_decode_words_main5 :
    words_main5.map (fun p => decode .r3000a p.1) = words_main5.map (fun p => .ok (p.2, [])) := by rfl

/-- Rows of spec/opcode_table.json on the CB page, bytes written from the Encoding line of each rule. -/
def words_cb0 : List (List Byte × Instr) :=
  [([0xCB, 0x00], .rlc_B), ([0xCB, 0x01], .rlc_C), ([0xCB, 0x02], .rlc_D), ([0xCB, 0x03], .rlc_E),
   ([0xCB, 0x04], .rlc_H), ([0xCB, 0x05], .rlc_L), ([0xCB, 0x06], .rlc_atHL), ([0xCB, 0x07], .rlc_A),
   ([0xCB, 0x08], .rrc_B), ([0xCB, 0x09], .rrc_C), ([0xCB, 0x0A], .rrc_D), ([0xCB, 0x0B], .rrc_E),
   ([0xCB, 0x0C], .rrc_H), ([0xCB, 0x0D], .rrc_L), ([0xCB, 0x0E], .rrc_atHL), ([0xCB, 0x0F], .rrc_A),
   ([0xCB, 0x10], .rl_B), ([0xCB, 0x11], .rl_C), ([0xCB, 0x12], .rl_D), ([0xCB, 0x13], .rl_E), ([0xCB, 0x14], .rl_H),
   ([0xCB, 0x15], .rl_L), ([0xCB, 0x16], .rl_atHL), ([0xCB, 0x17], .rl_A), ([0xCB, 0x18], .rr_B),
   ([0xCB, 0x19], .rr_C), ([0xCB, 0x1A], .rr_D), ([0xCB, 0x1B], .rr_E), ([0xCB, 0x1C], .rr_H), ([0xCB, 0x1D], .rr_L),
   ([0xCB, 0x1E], .rr_atHL), ([0xCB, 0x1F], .rr_A), ([0xCB, 0x20], .sla_B), ([0xCB, 0x21], .sla_C),
   ([0xCB, 0x22], .sla_D), ([0xCB, 0x23], .sla_E), ([0xCB, 0x24], .sla_H), ([0xCB, 0x25], .sla_L),
   ([0xCB, 0x26], .sla_atHL), ([0xCB, 0x27], .sla_A), ([0xCB, 0x28], .sra_B), ([0xCB, 0x29], .sra_C),
   ([0xCB, 0x2A], .sra_D), ([0xCB, 0x2B], .sra_E), ([0xCB, 0x2C], .sra_H), ([0xCB, 0x2D], .sra_L),
   ([0xCB, 0x2E], .sra_atHL), ([0xCB, 0x2F], .sra_A)]

theorem test_decode_words_cb0 :
    words_cb0.map (fun p => decode .r3000a p.1) = words_cb0.map (fun p => .ok (p.2, [])) := by rfl

/-- Rows of spec/opcode_table.json on the CB page, bytes written from the Encoding line of each rule. -/
def words_cb1 : List (List Byte × Instr) :=
  [([0xCB, 0x38], .srl_B), ([0xCB, 0x39], .srl_C), ([0xCB, 0x3A], .srl_D), ([0xCB, 0x3B], .srl_E),
   ([0xCB, 0x3C], .srl_H), ([0xCB, 0x3D], .srl_L), ([0xCB, 0x3E], .srl_atHL), ([0xCB, 0x3F], .srl_A),
   ([0xCB, 0x40], .bit_0_B), ([0xCB, 0x41], .bit_0_C), ([0xCB, 0x42], .bit_0_D), ([0xCB, 0x43], .bit_0_E),
   ([0xCB, 0x44], .bit_0_H), ([0xCB, 0x45], .bit_0_L), ([0xCB, 0x46], .bit_0_atHL), ([0xCB, 0x47], .bit_0_A),
   ([0xCB, 0x48], .bit_1_B), ([0xCB, 0x49], .bit_1_C), ([0xCB, 0x4A], .bit_1_D), ([0xCB, 0x4B], .bit_1_E),
   ([0xCB, 0x4C], .bit_1_H), ([0xCB, 0x4D], .bit_1_L), ([0xCB, 0x4E], .bit_1_atHL), ([0xCB, 0x4F], .bit_1_A),
   ([0xCB, 0x50], .bit_2_B), ([0xCB, 0x51], .bit_2_C), ([0xCB, 0x52], .bit_2_D), ([0xCB, 0x53], .bit_2_E),
   ([0xCB, 0x54], .bit_2_H), ([0xCB, 0x55], .bit_2_L), ([0xCB, 0x56], .bit_2_atHL), ([0xCB, 0x57], .bit_2_A),
   ([0xCB, 0x58], .bit_3_B), ([0xCB, 0x59], .bit_3_C), ([0xCB, 0x5A], .bit_3_D), ([0xCB, 0x5B], .bit_3_E),
   ([0xCB, 0x5C], .bit_3_H), ([0xCB, 0x5D], .bit_3_L), ([0xCB, 0x5E], .bit_3_atHL), ([0xCB, 0x5F], .bit_3_A),
   ([0xCB, 0x60], .bit_4_B), ([0xCB, 0x61], .bit_4_C), ([0xCB, 0x62], .bit_4_D), ([0xCB, 0x63], .bit_4_E),
   ([0xCB, 0x64], .bit_4_H), ([0xCB, 0x65], .bit_4_L), ([0xCB, 0x66], .bit_4_atHL), ([0xCB, 0x67], .bit_4_A)]

theorem test_decode_words_cb1 :
    words_cb1.map (fun p => decode .r3000a p.1) = words_cb1.map (fun p => .ok (p.2, [])) := by rfl

/-- Rows of spec/opcode_table.json on the CB page, bytes written from the Encoding line of each rule. -/
def words_cb2 : List (List Byte × Instr) :=
  [([0xCB, 0x68], .bit_5_B), ([0xCB, 0x69], .bit_5_C), ([0xCB, 0x6A], .bit_5_D), ([0xCB, 0x6B], .bit_5_E),
   ([0xCB, 0x6C], .bit_5_H), ([0xCB, 0x6D], .bit_5_L), ([0xCB, 0x6E], .bit_5_atHL), ([0xCB, 0x6F], .bit_5_A),
   ([0xCB, 0x70], .bit_6_B), ([0xCB, 0x71], .bit_6_C), ([0xCB, 0x72], .bit_6_D), ([0xCB, 0x73], .bit_6_E),
   ([0xCB, 0x74], .bit_6_H), ([0xCB, 0x75], .bit_6_L), ([0xCB, 0x76], .bit_6_atHL), ([0xCB, 0x77], .bit_6_A),
   ([0xCB, 0x78], .bit_7_B), ([0xCB, 0x79], .bit_7_C), ([0xCB, 0x7A], .bit_7_D), ([0xCB, 0x7B], .bit_7_E),
   ([0xCB, 0x7C], .bit_7_H), ([0xCB, 0x7D], .bit_7_L), ([0xCB, 0x7E], .bit_7_atHL), ([0xCB, 0x7F], .bit_7_A),
   ([0xCB, 0x80], .res_0_B), ([0xCB, 0x81], .res_0_C), ([0xCB, 0x82], .res_0_D), ([0xCB, 0x83], .res_0_E),
   ([0xCB, 0x84], .res_0_H), ([0xCB, 0x85], .res_0_L), ([0xCB, 0x86], .res_0_atHL), ([0xCB, 0x87], .res_0_A),
   ([0xCB, 0x88], .res_1_B), ([0xCB, 0x89], .res_1_C), ([0xCB, 0x8A], .res_1_D), ([0xCB, 0x8B], .res_1_E),
   ([0xCB, 0x8C], .res_1_H), ([0xCB, 0x8D], .res_1_L), ([0xCB, 0x8E], .res_1_atHL), ([0xCB, 0x8F], .res_1_A),
   ([0xCB, 0x90], .res_2_B), ([0xCB, 0x91], .res_2_C), ([0xCB, 0x92], .res_2_D), ([0xCB, 0x93], .res_2_E),
   ([0xCB, 0x94], .res_2_H), ([0xCB, 0x95], .res_2_L), ([0xCB, 0x96], .res_2_atHL), ([0xCB, 0x97], .res_2_A)]

theorem test_decode_words_cb2 :
    words_cb2.map (fun p => decode .r3000a p.1) = words_cb2.map (fun p => .ok (p.2, [])) := by rfl

/-- Rows of spec/opcode_table.json on the CB page, bytes written from the Encoding line of each rule. -/
def words_cb3 : List (List Byte × Instr) :=
  [([0xCB, 0x98], .res_3_B), ([0xCB, 0x99], .res_3_C), ([0xCB, 0x9A], .res_3_D), ([0xCB, 0x9B], .res_3_E),
   ([0xCB, 0x9C], .res_3_H), ([0xCB, 0x9D], .res_3_L), ([0xCB, 0x9E], .res_3_atHL), ([0xCB, 0x9F], .res_3_A),
   ([0xCB, 0xA0], .res_4_B), ([0xCB, 0xA1], .res_4_C), ([0xCB, 0xA2], .res_4_D), ([0xCB, 0xA3], .res_4_E),
   ([0xCB, 0xA4], .res_4_H), ([0xCB, 0xA5], .res_4_L), ([0xCB, 0xA6], .res_4_atHL), ([0xCB, 0xA7], .res_4_A),
   ([0xCB, 0xA8], .res_5_B), ([0xCB, 0xA9], .res_5_C), ([0xCB, 0xAA], .res_5_D), ([0xCB, 0xAB], .res_5_E),
   ([0xCB, 0xAC], .res_5_H), ([0xCB, 0xAD], .res_5_L), ([0xCB, 0xAE], .res_5_atHL), ([0xCB, 0xAF], .res_5_A),
   ([0xCB, 0xB0], .res_6_B), ([0xCB, 0xB1], .res_6_C), ([0xCB, 0xB2], .res_6_D), ([0xCB, 0xB3], .res_6_E),
   ([0xCB, 0xB4], .res_6_H), ([0xCB, 0xB5], .res_6_L), ([0xCB, 0xB6], .res_6_atHL), ([0xCB, 0xB7], .res_6_A),
   ([0xCB, 0xB8], .res_7_B), ([0xCB, 0xB9], .res_7_C), ([0xCB, 0xBA], .res_7_D), ([0xCB, 0xBB], .res_7_E),
   ([0xCB, 0xBC], .res_7_H), ([0xCB, 0xBD], .res_7_L), ([0xCB, 0xBE], .res_7_atHL), ([0xCB, 0xBF], .res_7_A),
   ([0xCB, 0xC0], .set_0_B), ([0xCB, 0xC1], .set_0_C), ([0xCB, 0xC2], .set_0_D), ([0xCB, 0xC3], .set_0_E),
   ([0xCB, 0xC4], .set_0_H), ([0xCB, 0xC5], .set_0_L), ([0xCB, 0xC6], .set_0_atHL), ([0xCB, 0xC7], .set_0_A)]

theorem test_decode_words_cb3 :
    words_cb3.map (fun p => decode .r3000a p.1) = words_cb3.map (fun p => .ok (p.2, [])) := by rfl

/-- Rows of spec/opcode_table.json on the CB page, bytes written from the Encoding line of each rule. -/
def words_cb4 : List (List Byte × Instr) :=
  [([0xCB, 0xC8], .set_1_B), ([0xCB, 0xC9], .set_1_C), ([0xCB, 0xCA], .set_1_D), ([0xCB, 0xCB], .set_1_E),
   ([0xCB, 0xCC], .set_1_H), ([0xCB, 0xCD], .set_1_L), ([0xCB, 0xCE], .set_1_atHL), ([0xCB, 0xCF], .set_1_A),
   ([0xCB, 0xD0], .set_2_B), ([0xCB, 0xD1], .set_2_C), ([0xCB, 0xD2], .set_2_D), ([0xCB, 0xD3], .set_2_E),
   ([0xCB, 0xD4], .set_2_H), ([0xCB, 0xD5], .set_2_L), ([0xCB, 0xD6], .set_2_atHL), ([0xCB, 0xD7], .set_2_A),
   ([0xCB, 0xD8], .set_3_B), ([0xCB, 0xD9], .set_3_C), ([0xCB, 0xDA], .set_3_D), ([0xCB, 0xDB], .set_3_E),
   ([0xCB, 0xDC], .set_3_H), ([0xCB, 0xDD], .set_3_L), ([0xCB, 0xDE], .set_3_atHL), ([0xCB, 0xDF], .set_3_A),
   ([0xCB, 0xE0], .set_4_B), ([0xCB, 0xE1], .set_4_C), ([0xCB, 0xE2], .set_4_D), ([0xCB, 0xE3], .set_4_E),
   ([0xCB, 0xE4], .set_4_H), ([0xCB, 0xE5], .set_4_L), ([0xCB, 0xE6], .set_4_atHL), ([0xCB, 0xE7], .set_4_A),
   ([0xCB, 0xE8], .set_5_B), ([0xCB, 0xE9], .set_5_C), ([0xCB, 0xEA], .set_5_D), ([0xCB, 0xEB], .set_5_E),
   ([0xCB, 0xEC], .set_5_H), ([0xCB, 0xED], .set_5_L), ([0xCB, 0xEE], .set_5_atHL), ([0xCB, 0xEF], .set_5_A),
   ([0xCB, 0xF0], .set_6_B), ([0xCB, 0xF1], .set_6_C), ([0xCB, 0xF2], .set_6_D), ([0xCB, 0xF3], .set_6_E),
   ([0xCB, 0xF4], .set_6_H), ([0xCB, 0xF5], .set_6_L), ([0xCB, 0xF6], .set_6_atHL), ([0xCB, 0xF7], .set_6_A)]

theorem test_decode_words_cb4 :
    words_cb4.map (fun p => decode .r3000a p.1) = words_cb4.map (fun p => .ok (p.2, [])) := by rfl

/-- Rows of spec/opcode_table.json on the CB page, bytes written from the Encoding line of each rule. -/
def words_cb5 : List (List Byte × Instr) :=
  [([0xCB, 0xF8], .set_7_B), ([0xCB, 0xF9], .set_7_C), ([0xCB, 0xFA], .set_7_D), ([0xCB, 0xFB], .set_7_E),
   ([0xCB, 0xFC], .set_7_H), ([0xCB, 0xFD], .set_7_L), ([0xCB, 0xFE], .set_7_atHL), ([0xCB, 0xFF], .set_7_A)]

theorem test_decode_words_cb5 :
    words_cb5.map (fun p => decode .r3000a p.1) = words_cb5.map (fun p => .ok (p.2, [])) := by rfl

/-- Rows of spec/opcode_table.json on the ED page, bytes written from the Encoding line of each rule. -/
def words_ed0 : List (List Byte × Instr) :=
  [([0xED, 0x41], .ld_BC'_DE), ([0xED, 0x42], .sbc_HL_BC), ([0xED, 0x43, 0x34, 0x12], .ld_atMn_BC 0x1234),
   ([0xED, 0x44], .neg), ([0xED, 0x45], .lret), ([0xED, 0x46], .ipset_0), ([0xED, 0x47], .ld_EIR_A),
   ([0xED, 0x49], .ld_BC'_BC), ([0xED, 0x4A], .adc_HL_BC), ([0xED, 0x4B, 0x34, 0x12], .ld_BC_atMn 0x1234),
   ([0xED, 0x4D], .reti), ([0xED, 0x4E], .ipset_2), ([0xED, 0x4F], .ld_IIR_A), ([0xED, 0x51], .ld_DE'_DE),
   ([0xED, 0x52], .sbc_HL_DE), ([0xED, 0x53, 0x34, 0x12], .ld_atMn_DE 0x1234), ([0xED, 0x54], .ex_atSP_HL),
   ([0xED, 0x56], .ipset_1), ([0xED, 0x57], .ld_A_EIR), ([0xED, 0x59], .ld_DE'_BC), ([0xED, 0x5A], .adc_HL_DE),
   ([0xED, 0x5B, 0x34, 0x12], .ld_DE_atMn 0x1234), ([0xED, 0x5D], .ipres), ([0xED, 0x5E], .ipset_3),
   ([0xED, 0x5F], .ld_A_IIR), ([0xED, 0x61], .ld_HL'_DE), ([0xED, 0x62], .sbc_HL_HL),
   ([0xED, 0x63, 0x34, 0x12], .ld_atMn_HL_ed 0x1234), ([0xED, 0x64], .ldp_atHL_HL),
   ([0xED, 0x65, 0x34, 0x12], .ldp_atMn_HL 0x1234), ([0xED, 0x66], .push_SU), ([0xED, 0x67], .ld_XPC_A),
   ([0xED, 0x69], .ld_HL'_BC), ([0xED, 0x6A], .adc_HL_HL), ([0xED, 0x6B, 0x34, 0x12], .ld_HL_atMn_ed 0x1234),
   ([0xED, 0x6C], .ldp_HL_atHL), ([0xED, 0x6D, 0x34, 0x12], .ldp_HL_atMn 0x1234), ([0xED, 0x6E], .pop_SU),
   ([0xED, 0x6F], .setusr), ([0xED, 0x72], .sbc_HL_SP), ([0xED, 0x73, 0x34, 0x12], .ld_atMn_SP 0x1234),
   ([0xED, 0x75], .syscall), ([0xED, 0x76], .push_IP), ([0xED, 0x77], .ld_A_XPC), ([0xED, 0x7A], .adc_HL_SP),
   ([0xED, 0x7B, 0x34, 0x12], .ld_SP_atMn 0x1234), ([0xED, 0x7D], .sures), ([0xED, 0x7E], .pop_IP)]

theorem test_decode_words_ed0 :
    words_ed0.map (fun p => decode .r3000a p.1) = words_ed0.map (fun p => .ok (p.2, [])) := by rfl

/-- Rows of spec/opcode_table.json on the ED page, bytes written from the Encoding line of each rule. -/
def words_ed1 : List (List Byte × Instr) :=
  [([0xED, 0x7F], .rdmode), ([0xED, 0x90], .ldisr), ([0xED, 0x98], .lddsr), ([0xED, 0xA0], .ldi),
   ([0xED, 0xA8], .ldd), ([0xED, 0xB0], .ldir), ([0xED, 0xB8], .lddr), ([0xED, 0xC0], .uma), ([0xED, 0xC8], .ums),
   ([0xED, 0xD0], .lsidr), ([0xED, 0xD8], .lsddr), ([0xED, 0xF0], .lsir), ([0xED, 0xF8], .lsdr)]

theorem test_decode_words_ed1 :
    words_ed1.map (fun p => decode .r3000a p.1) = words_ed1.map (fun p => .ok (p.2, [])) := by rfl

/-- Rows of spec/opcode_table.json on the DD page, bytes written from the Encoding line of each rule. -/
def words_dd0 : List (List Byte × Instr) :=
  [([0xDD, 0x09], .add_IX_BC), ([0xDD, 0x19], .add_IX_DE), ([0xDD, 0x21, 0x34, 0x12], .ld_IX_mn 0x1234),
   ([0xDD, 0x22, 0x34, 0x12], .ld_atMn_IX 0x1234), ([0xDD, 0x23], .inc_IX), ([0xDD, 0x29], .add_IX_IX),
   ([0xDD, 0x2A, 0x34, 0x12], .ld_IX_atMn 0x1234), ([0xDD, 0x2B], .dec_IX), ([0xDD, 0x34, 0x05], .inc_atIXd 0x05),
   ([0xDD, 0x35, 0x05], .dec_atIXd 0x05), ([0xDD, 0x36, 0x05, 0x7F], .ld_atIXd_n 0x05 0x7F),
   ([0xDD, 0x39], .add_IX_SP), ([0xDD, 0x46, 0x05], .ld_B_atIXd 0x05), ([0xDD, 0x4E, 0x05], .ld_C_atIXd 0x05),
   ([0xDD, 0x56, 0x05], .ld_D_atIXd 0x05), ([0xDD, 0x5E, 0x05], .ld_E_atIXd 0x05), ([0xDD, 0x64], .ldp_atIX_HL),
   ([0xDD, 0x65, 0x34, 0x12], .ldp_atMn_IX 0x1234), ([0xDD, 0x66, 0x05], .ld_H_atIXd 0x05),
   ([0xDD, 0x6C], .ldp_HL_atIX), ([0xDD, 0x6D, 0x34, 0x12], .ldp_IX_atMn 0x1234),
   ([0xDD, 0x6E, 0x05], .ld_L_atIXd 0x05), ([0xDD, 0x70, 0x05], .ld_atIXd_B 0x05),
   ([0xDD, 0x71, 0x05], .ld_atIXd_C 0x05), ([0xDD, 0x72, 0x05], .ld_atIXd_D 0x05),
   ([0xDD, 0x73, 0x05], .ld_atIXd_E 0x05), ([0xDD, 0x74, 0x05], .ld_atIXd_H 0x05),
   ([0xDD, 0x75, 0x05], .ld_atIXd_L 0x05), ([0xDD, 0x77, 0x05], .ld_atIXd_A 0x05), ([0xDD, 0x7C], .ld_HL_IX),
   ([0xDD, 0x7D], .ld_IX_HL), ([0xDD, 0x7E, 0x05], .ld_A_atIXd 0x05), ([0xDD, 0x86, 0x05], .add_A_atIXd 0x05),
   ([0xDD, 0x8E, 0x05], .adc_A_atIXd 0x05), ([0xDD, 0x96, 0x05], .sub_atIXd 0x05),
   ([0xDD, 0x9E, 0x05], .sbc_A_atIXd 0x05), ([0xDD, 0xA6, 0x05], .and_atIXd 0x05),
   ([0xDD, 0xAE, 0x05], .xor_atIXd 0x05), ([0xDD, 0xB6, 0x05], .or_atIXd 0x05), ([0xDD, 0xBE, 0x05], .cp_atIXd 0x05),
   ([0xDD, 0xC4, 0x7F], .ld_IX_atSPn 0x7F), ([0xDD, 0xCC], .bool_IX), ([0xDD, 0xD4, 0x7F], .ld_atSPn_IX 0x7F),
   ([0xDD, 0xDC], .and_IX_DE), ([0xDD, 0xE1], .pop_IX), ([0xDD, 0xE3], .ex_atSP_IX),
   ([0xDD, 0xE4, 0x05], .ld_HL_atHLd 0x05), ([0xDD, 0xE5], .push_IX)]

theorem test_decode_words_dd0 :
    words_dd0.map (fun p => decode .r3000a p.1) = words_dd0.map (fun p => .ok (p.2, [])) := by rfl

/-- Rows of spec/opcode_table.json on the DD page, bytes written from the Encoding line of each rule. -/
def words_dd1 : List (List Byte × Instr) :=
  [([0xDD, 0xE9], .jp_atIX), ([0xDD, 0xEC], .or_IX_DE), ([0xDD, 0xF4, 0x05], .ld_atHLd_HL 0x05),
   ([0xDD, 0xF9], .ld_SP_IX), ([0xDD, 0xFC], .rr_IX)]

theorem test_decode_words_dd1 :
    words_dd1.map (fun p => decode .r3000a p.1) = words_dd1.map (fun p => .ok (p.2, [])) := by rfl

/-- Rows of spec/opcode_table.json on the DD CB page, bytes written from the Encoding line of each rule. -/
def words_ddcb : List (List Byte × Instr) :=
  [([0xDD, 0xCB, 0x05, 0x06], .rlc_atIXd 0x05), ([0xDD, 0xCB, 0x05, 0x0E], .rrc_atIXd 0x05),
   ([0xDD, 0xCB, 0x05, 0x16], .rl_atIXd 0x05), ([0xDD, 0xCB, 0x05, 0x1E], .rr_atIXd 0x05),
   ([0xDD, 0xCB, 0x05, 0x26], .sla_atIXd 0x05), ([0xDD, 0xCB, 0x05, 0x2E], .sra_atIXd 0x05),
   ([0xDD, 0xCB, 0x05, 0x3E], .srl_atIXd 0x05), ([0xDD, 0xCB, 0x05, 0x46], .bit_0_atIXd 0x05),
   ([0xDD, 0xCB, 0x05, 0x4E], .bit_1_atIXd 0x05), ([0xDD, 0xCB, 0x05, 0x56], .bit_2_atIXd 0x05),
   ([0xDD, 0xCB, 0x05, 0x5E], .bit_3_atIXd 0x05), ([0xDD, 0xCB, 0x05, 0x66], .bit_4_atIXd 0x05),
   ([0xDD, 0xCB, 0x05, 0x6E], .bit_5_atIXd 0x05), ([0xDD, 0xCB, 0x05, 0x76], .bit_6_atIXd 0x05),
   ([0xDD, 0xCB, 0x05, 0x7E], .bit_7_atIXd 0x05), ([0xDD, 0xCB, 0x05, 0x86], .res_0_atIXd 0x05),
   ([0xDD, 0xCB, 0x05, 0x8E], .res_1_atIXd 0x05), ([0xDD, 0xCB, 0x05, 0x96], .res_2_atIXd 0x05),
   ([0xDD, 0xCB, 0x05, 0x9E], .res_3_atIXd 0x05), ([0xDD, 0xCB, 0x05, 0xA6], .res_4_atIXd 0x05),
   ([0xDD, 0xCB, 0x05, 0xAE], .res_5_atIXd 0x05), ([0xDD, 0xCB, 0x05, 0xB6], .res_6_atIXd 0x05),
   ([0xDD, 0xCB, 0x05, 0xBE], .res_7_atIXd 0x05), ([0xDD, 0xCB, 0x05, 0xC6], .set_0_atIXd 0x05),
   ([0xDD, 0xCB, 0x05, 0xCE], .set_1_atIXd 0x05), ([0xDD, 0xCB, 0x05, 0xD6], .set_2_atIXd 0x05),
   ([0xDD, 0xCB, 0x05, 0xDE], .set_3_atIXd 0x05), ([0xDD, 0xCB, 0x05, 0xE6], .set_4_atIXd 0x05),
   ([0xDD, 0xCB, 0x05, 0xEE], .set_5_atIXd 0x05), ([0xDD, 0xCB, 0x05, 0xF6], .set_6_atIXd 0x05),
   ([0xDD, 0xCB, 0x05, 0xFE], .set_7_atIXd 0x05)]

theorem test_decode_words_ddcb :
    words_ddcb.map (fun p => decode .r3000a p.1) = words_ddcb.map (fun p => .ok (p.2, [])) := by rfl

/-- Rows of spec/opcode_table.json on the FD page, bytes written from the Encoding line of each rule. -/
def words_fd0 : List (List Byte × Instr) :=
  [([0xFD, 0x09], .add_IY_BC), ([0xFD, 0x19], .add_IY_DE), ([0xFD, 0x21, 0x34, 0x12], .ld_IY_mn 0x1234),
   ([0xFD, 0x22, 0x34, 0x12], .ld_atMn_IY 0x1234), ([0xFD, 0x23], .inc_IY), ([0xFD, 0x29], .add_IY_IY),
   ([0xFD, 0x2A, 0x34, 0x12], .ld_IY_atMn 0x1234), ([0xFD, 0x2B], .dec_IY), ([0xFD, 0x34, 0x05], .inc_atIYd 0x05),
   ([0xFD, 0x35, 0x05], .dec_atIYd 0x05), ([0xFD, 0x36, 0x05, 0x7F], .ld_atIYd_n 0x05 0x7F),
   ([0xFD, 0x39], .add_IY_SP), ([0xFD, 0x46, 0x05], .ld_B_atIYd 0x05), ([0xFD, 0x4E, 0x05], .ld_C_atIYd 0x05),
   ([0xFD, 0x56, 0x05], .ld_D_atIYd 0x05), ([0xFD, 0x5E, 0x05], .ld_E_atIYd 0x05), ([0xFD, 0x64], .ldp_atIY_HL),
   ([0xFD, 0x65, 0x34, 0x12], .ldp_atMn_IY 0x1234), ([0xFD, 0x66, 0x05], .ld_H_atIYd 0x05),
   ([0xFD, 0x6C], .ldp_HL_atIY), ([0xFD, 0x6D, 0x34, 0x12], .ldp_IY_atMn 0x1234),
   ([0xFD, 0x6E, 0x05], .ld_L_atIYd 0x05), ([0xFD, 0x70, 0x05], .ld_atIYd_B 0x05),
   ([0xFD, 0x71, 0x05], .ld_atIYd_C 0x05), ([0xFD, 0x72, 0x05], .ld_atIYd_D 0x05),
   ([0xFD, 0x73, 0x05], .ld_atIYd_E 0x05), ([0xFD, 0x74, 0x05], .ld_atIYd_H 0x05),
   ([0xFD, 0x75, 0x05], .ld_atIYd_L 0x05), ([0xFD, 0x77, 0x05], .ld_atIYd_A 0x05), ([0xFD, 0x7C], .ld_HL_IY),
   ([0xFD, 0x7D], .ld_IY_HL), ([0xFD, 0x7E, 0x05], .ld_A_atIYd 0x05), ([0xFD, 0x86, 0x05], .add_A_atIYd 0x05),
   ([0xFD, 0x8E, 0x05], .adc_A_atIYd 0x05), ([0xFD, 0x96, 0x05], .sub_atIYd 0x05),
   ([0xFD, 0x9E, 0x05], .sbc_A_atIYd 0x05), ([0xFD, 0xA6, 0x05], .and_atIYd 0x05),
   ([0xFD, 0xAE, 0x05], .xor_atIYd 0x05), ([0xFD, 0xB6, 0x05], .or_atIYd 0x05), ([0xFD, 0xBE, 0x05], .cp_atIYd 0x05),
   ([0xFD, 0xC4, 0x7F], .ld_IY_atSPn 0x7F), ([0xFD, 0xCC], .bool_IY), ([0xFD, 0xD4, 0x7F], .ld_atSPn_IY 0x7F),
   ([0xFD, 0xDC], .and_IY_DE), ([0xFD, 0xE1], .pop_IY), ([0xFD, 0xE3], .ex_atSP_IY),
   ([0xFD, 0xE4, 0x05], .ld_HL_atIYd 0x05), ([0xFD, 0xE5], .push_IY)]

theorem test_decode_words_fd0 :
    words_fd0.map (fun p => decode .r3000a p.1) = words_fd0.map (fun p => .ok (p.2, [])) := by rfl

/-- Rows of spec/opcode_table.json on the FD page, bytes written from the Encoding line of each rule. -/
def words_fd1 : List (List Byte × Instr) :=
  [([0xFD, 0xE9], .jp_atIY), ([0xFD, 0xEC], .or_IY_DE), ([0xFD, 0xF4, 0x05], .ld_atIYd_HL 0x05),
   ([0xFD, 0xF9], .ld_SP_IY), ([0xFD, 0xFC], .rr_IY)]

theorem test_decode_words_fd1 :
    words_fd1.map (fun p => decode .r3000a p.1) = words_fd1.map (fun p => .ok (p.2, [])) := by rfl

/-- Rows of spec/opcode_table.json on the FD CB page, bytes written from the Encoding line of each rule. -/
def words_fdcb : List (List Byte × Instr) :=
  [([0xFD, 0xCB, 0x05, 0x06], .rlc_atIYd 0x05), ([0xFD, 0xCB, 0x05, 0x0E], .rrc_atIYd 0x05),
   ([0xFD, 0xCB, 0x05, 0x16], .rl_atIYd 0x05), ([0xFD, 0xCB, 0x05, 0x1E], .rr_atIYd 0x05),
   ([0xFD, 0xCB, 0x05, 0x26], .sla_atIYd 0x05), ([0xFD, 0xCB, 0x05, 0x2E], .sra_atIYd 0x05),
   ([0xFD, 0xCB, 0x05, 0x3E], .srl_atIYd 0x05), ([0xFD, 0xCB, 0x05, 0x46], .bit_0_atIYd 0x05),
   ([0xFD, 0xCB, 0x05, 0x4E], .bit_1_atIYd 0x05), ([0xFD, 0xCB, 0x05, 0x56], .bit_2_atIYd 0x05),
   ([0xFD, 0xCB, 0x05, 0x5E], .bit_3_atIYd 0x05), ([0xFD, 0xCB, 0x05, 0x66], .bit_4_atIYd 0x05),
   ([0xFD, 0xCB, 0x05, 0x6E], .bit_5_atIYd 0x05), ([0xFD, 0xCB, 0x05, 0x76], .bit_6_atIYd 0x05),
   ([0xFD, 0xCB, 0x05, 0x7E], .bit_7_atIYd 0x05), ([0xFD, 0xCB, 0x05, 0x86], .res_0_atIYd 0x05),
   ([0xFD, 0xCB, 0x05, 0x8E], .res_1_atIYd 0x05), ([0xFD, 0xCB, 0x05, 0x96], .res_2_atIYd 0x05),
   ([0xFD, 0xCB, 0x05, 0x9E], .res_3_atIYd 0x05), ([0xFD, 0xCB, 0x05, 0xA6], .res_4_atIYd 0x05),
   ([0xFD, 0xCB, 0x05, 0xAE], .res_5_atIYd 0x05), ([0xFD, 0xCB, 0x05, 0xB6], .res_6_atIYd 0x05),
   ([0xFD, 0xCB, 0x05, 0xBE], .res_7_atIYd 0x05), ([0xFD, 0xCB, 0x05, 0xC6], .set_0_atIYd 0x05),
   ([0xFD, 0xCB, 0x05, 0xCE], .set_1_atIYd 0x05), ([0xFD, 0xCB, 0x05, 0xD6], .set_2_atIYd 0x05),
   ([0xFD, 0xCB, 0x05, 0xDE], .set_3_atIYd 0x05), ([0xFD, 0xCB, 0x05, 0xE6], .set_4_atIYd 0x05),
   ([0xFD, 0xCB, 0x05, 0xEE], .set_5_atIYd 0x05), ([0xFD, 0xCB, 0x05, 0xF6], .set_6_atIYd 0x05),
   ([0xFD, 0xCB, 0x05, 0xFE], .set_7_atIYd 0x05)]

theorem test_decode_words_fdcb :
    words_fdcb.map (fun p => decode .r3000a p.1) = words_fdcb.map (fun p => .ok (p.2, [])) := by rfl

/-- Byte 5B is LD E,E before the Rabbit 3000A (40_ld8.md R201, 49_prefix_system.md R580). -/
theorem test_decode_5B :
    [decode .r2000 [0x5B], decode .r3000 [0x5B]] = [.ok (.ld_E_E, []), .ok (.ld_E_E, [])] := by rfl

/-- Bytes that are no instruction are rejected and named (30_encoding.md R131-R135). -/
theorem test_decode_undefined :
    [decode .r3000a [0xCB, 0x30], decode .r3000a [0xED, 0x00], decode .r3000a [0xED, 0x79], decode .r3000a [0xDD, 0x00],
      decode .r3000a [0xDD, 0xCB, 0x05, 0xC0], decode .r3000 [0xED, 0x66]] =
    [.error (.undefinedOpcode [0xCB, 0x30]), .error (.undefinedOpcode [0xED, 0x00]),
      .error (.undefinedOpcode [0xED, 0x79]), .error (.undefinedOpcode [0xDD, 0x00]),
      .error (.undefinedOpcode [0xDD, 0xCB, 0x05, 0xC0]), .error (.undefinedOpcode [0xED, 0x66])] := by rfl

/-- The table numbers a word with its first byte most significant: RES 3,E is CB 9B, 52123. -/
theorem test_table_word : decodeTableWord 16 52123 = some .res_3_E := by decide

/-! ## Steps: vectors of 95_test_vectors.md, what changes by the spec -/

/-- The next state satisfies `p`. -/
def after (s : State) (p : State → Bool) : Bool :=
  match step s with
  | .next t => p t
  | _ => false

/-- The step stops with `r`. -/
def stops (s : State) (r : Refusal) : Bool :=
  match step s with
  | .refused q => q == r
  | _ => false

/-- V40.1 LD B,C -/
theorem test_V40_1 : after
    { State.reset with
      main := { Bank.zero with c := 0x12 }
      pc := 0x0100
      mem := [(0x0100, 0x41)] }
    (fun t => t.main.b == 0x12 && t.pc == 0x0101) = true := by decide

/-- V40.8 LD D,(IX-2) -/
theorem test_V40_8 : after
    { State.reset with
      ix := 0x4000
      pc := 0x0100
      mem := [(0x0100, 0xDD), (0x0101, 0x56), (0x0102, 0xFE), (0x3FFE, 0x42)] }
    (fun t => t.main.d == 0x42 && t.pc == 0x0103) = true := by decide

/-- V40.9 LD A,(IX+1) -/
theorem test_V40_9 : after
    { State.reset with
      ix := 0xFFFF
      pc := 0x0100
      mem := [(0x0000, 0x99), (0x0100, 0xDD), (0x0101, 0x7E), (0x0102, 0x01)] }
    (fun t => t.main.a == 0x99 && t.pc == 0x0103) = true := by decide

/-- V40.18 LD A,EIR -/
theorem test_V40_18 : after
    { State.reset with
      main := { Bank.zero with f := { Flags.clear with lv := true, c := true } }
      eir := 0x80
      pc := 0x0100
      mem := [(0x0100, 0xED), (0x0101, 0x57)] }
    (fun t => t.main.a == 0x80 && t.main.f.s && !t.main.f.z && t.main.f.lv && t.main.f.c && t.pc == 0x0102) = true :=
      by decide

/-- V40.20 ALTD LD A,IIR -/
theorem test_V40_20 : after
    { State.reset with
      main := { Bank.zero with a := 0x55 }
      alt := { Bank.zero with f := { Flags.clear with z := true, c := true } }
      iir := 0xE0
      pc := 0x0100
      mem := [(0x0100, 0x76), (0x0101, 0xED), (0x0102, 0x5F)] }
    (fun t => !t.main.f.s && !t.main.f.z && !t.main.f.lv && !t.main.f.c && t.alt.a == 0xE0 && t.alt.f.s && !t.alt.f.z
      && !t.alt.f.lv && t.alt.f.c && t.pc == 0x0103) = true := by decide

/-- V40.25 LD E,E / IDET -/
theorem test_V40_25 : after
    { State.reset with
      main := { Bank.zero with e := 0x33 }
      su := 0x01
      pc := 0x0100
      platform := { Platform.reset with edmrEnabled := true }
      mem := [(0x0100, 0x5B)] }
    (fun t => t.pc == 0x0101 && t.smvPending) = true := by decide

/-- V41.2 ALTD LD HL,BEEFh -/
theorem test_V41_2 : after
    { State.reset with
      main := { Bank.zero with h := 0x11, l := 0x11 }
      pc := 0x0100
      mem := [(0x0100, 0x76), (0x0101, 0x21), (0x0102, 0xEF), (0x0103, 0xBE)] }
    (fun t => t.alt.h == 0xBE && t.alt.l == 0xEF && t.pc == 0x0104) = true := by decide

/-- V41.6 LD HL,(FFFFh) -/
theorem test_V41_6 : after
    { State.reset with
      pc := 0x0100
      mem := [(0x0000, 0xAB), (0x0100, 0x2A), (0x0101, 0xFF), (0x0102, 0xFF), (0xFFFF, 0xCD)] }
    (fun t => t.main.h == 0xAB && t.main.l == 0xCD && t.pc == 0x0103) = true := by decide

/-- V41.21 LD HL,(SP+2) -/
theorem test_V41_21 : after
    { State.reset with
      sp := 0xDFF0
      pc := 0x0100
      mem := [(0x0100, 0xC4), (0x0101, 0x02), (0xDFF2, 0x11), (0xDFF3, 0x22)] }
    (fun t => t.main.h == 0x22 && t.main.l == 0x11 && t.pc == 0x0102) = true := by decide

/-- V41.33 LDP (HL),HL -/
theorem test_V41_33 : after
    { State.reset with
      main := { Bank.zero with a := 0xF5, h := 0xFF, l := 0xFF }
      pc := 0x0100
      mem := [(0x0100, 0xED), (0x0101, 0x64)] }
    (fun t => t.pc == 0x0102 && t.physRead 0x50000 == 0xFF && t.physRead 0x5FFFF == 0xFF) = true := by decide

/-- V41.36 LDP HL,(IY) -/
theorem test_V41_36 : after
    { State.reset with
      main := { Bank.zero with a := 0x08 }
      iy := 0xFFFF
      pc := 0x0100
      mem := [(0x0100, 0xFD), (0x0101, 0x6C), (0x80000, 0x22), (0x8FFFF, 0x11), (0x90000, 0x99)] }
    (fun t => t.main.h == 0x22 && t.main.l == 0x11 && t.pc == 0x0102) = true := by decide

/-- V42.2 PUSH AF -/
theorem test_V42_2 : after
    { State.reset with
      main := { Bank.zero with a := 0x9C, f := { Flags.clear with s := true, c := true } }
      sp := 0xD000
      pc := 0x0100
      mem := [(0x0100, 0xF5)] }
    (fun t => t.sp == 0xCFFE && t.pc == 0x0101 && t.physRead 0x0CFFE == 0x81 && t.physRead 0x0CFFF == 0x9C) = true :=
      by decide

/-- V42.3 PUSH HL at SP=0001 -/
theorem test_V42_3 : after
    { State.reset with
      main := { Bank.zero with h := 0xAB, l := 0xCD }
      sp := 0x0001
      pc := 0x0100
      mem := [(0x0100, 0xE5)] }
    (fun t => t.sp == 0xFFFF && t.pc == 0x0101 && t.physRead 0x00000 == 0xAB && t.physRead 0x0FFFF == 0xCD) = true :=
      by decide

/-- V42.5 ALTD POP HL -/
theorem test_V42_5 : after
    { State.reset with
      main := { Bank.zero with l := 0x01 }
      sp := 0xCFFE
      pc := 0x0100
      mem := [(0x0100, 0x76), (0x0101, 0xE1), (0xCFFE, 0x78), (0xCFFF, 0x56)] }
    (fun t => t.alt.h == 0x56 && t.alt.l == 0x78 && t.sp == 0xD000 && t.pc == 0x0102) = true := by decide

/-- V42.6 POP AF -/
theorem test_V42_6 : after
    { State.reset with
      sp := 0xCFFE
      pc := 0x0100
      mem := [(0x0100, 0xF1), (0xCFFE, 0x45), (0xCFFF, 0x12)] }
    (fun t => t.main.a == 0x12 && !t.main.f.s && t.main.f.z && t.main.f.lv && t.main.f.c && t.sp == 0xD000 && t.pc ==
      0x0101) = true := by decide

/-- V42.14 EX AF,AF' -/
theorem test_V42_14 : after
    { State.reset with
      main := { Bank.zero with a := 0x12 }
      alt := { Bank.zero with a := 0x34, f := { Flags.clear with z := true, c := true } }
      pc := 0x0100
      mem := [(0x0100, 0x08)] }
    (fun t => t.main.a == 0x34 && !t.main.f.s && t.main.f.z && !t.main.f.lv && t.main.f.c && t.alt.a == 0x12 &&
      !t.alt.f.s && !t.alt.f.z && !t.alt.f.lv && !t.alt.f.c && t.pc == 0x0101) = true := by decide

/-- V42.17 ALTD EX DE,HL -/
theorem test_V42_17 : after
    { State.reset with
      main := { Bank.zero with d := 0x11, e := 0x11, h := 0x22, l := 0x22 }
      alt := { Bank.zero with h := 0x33, l := 0x33 }
      pc := 0x0100
      mem := [(0x0100, 0x76), (0x0101, 0xEB)] }
    (fun t => t.main.d == 0x33 && t.main.e == 0x33 && t.alt.h == 0x11 && t.alt.l == 0x11 && t.pc == 0x0102) = true :=
      by decide

/-- V42.19 ALTD EX DE',HL -/
theorem test_V42_19 : after
    { State.reset with
      main := { Bank.zero with h := 0x22, l := 0x22 }
      alt := { Bank.zero with d := 0x44, e := 0x44, h := 0x33, l := 0x33 }
      pc := 0x0100
      mem := [(0x0100, 0x76), (0x0101, 0xE3)] }
    (fun t => t.alt.d == 0x33 && t.alt.e == 0x33 && t.alt.h == 0x44 && t.alt.l == 0x44 && t.pc == 0x0102) = true :=
      by decide

/-- V42.21 ALTD EX (SP),HL -/
theorem test_V42_21 : after
    { State.reset with
      main := { Bank.zero with h := 0x12, l := 0x34 }
      sp := 0xD000
      pc := 0x0100
      mem := [(0x0100, 0x76), (0x0101, 0xED), (0x0102, 0x54), (0xD000, 0x78), (0xD001, 0x56)] }
    (fun t => t.alt.h == 0x56 && t.alt.l == 0x78 && t.pc == 0x0103 && t.physRead 0x0D000 == 0x34 && t.physRead
      0x0D001 == 0x12) = true := by decide

/-- V43.1 ADD A,B -/
theorem test_V43_1 : after
    { State.reset with
      main := { Bank.zero with a := 0x7F, b := 0x01 }
      pc := 0x0100
      mem := [(0x0100, 0x80)] }
    (fun t => t.main.a == 0x80 && t.main.f.s && !t.main.f.z && t.main.f.lv && !t.main.f.c && t.pc == 0x0101) = true
      := by decide

/-- V43.3 ADD A,A -/
theorem test_V43_3 : after
    { State.reset with
      main := { Bank.zero with a := 0x80 }
      pc := 0x0100
      mem := [(0x0100, 0x87)] }
    (fun t => t.main.a == 0x00 && !t.main.f.s && t.main.f.z && t.main.f.lv && t.main.f.c && t.pc == 0x0101) = true :=
      by decide

/-- V43.10 ALTD ADC A,B -/
theorem test_V43_10 : after
    { State.reset with
      main := { Bank.zero with a := 0x01, f := { Flags.clear with c := true }, b := 0x01 }
      pc := 0x0100
      mem := [(0x0100, 0x76), (0x0101, 0x88)] }
    (fun t => !t.main.f.s && !t.main.f.z && !t.main.f.lv && t.main.f.c && t.alt.a == 0x03 && !t.alt.f.s && !t.alt.f.z
      && !t.alt.f.lv && !t.alt.f.c && t.pc == 0x0102) = true := by decide

/-- V43.11 SUB B -/
theorem test_V43_11 : after
    { State.reset with
      main := { Bank.zero with a := 0x80, b := 0x01 }
      pc := 0x0100
      mem := [(0x0100, 0x90)] }
    (fun t => t.main.a == 0x7F && !t.main.f.s && !t.main.f.z && t.main.f.lv && !t.main.f.c && t.pc == 0x0101) = true
      := by decide

/-- V43.22 CP 01h -/
theorem test_V43_22 : after
    { State.reset with
      main := { Bank.zero with a := 0x90 }
      pc := 0x0100
      mem := [(0x0100, 0xFE), (0x0101, 0x01)] }
    (fun t => t.main.f.s && !t.main.f.z && !t.main.f.lv && !t.main.f.c && t.pc == 0x0102) = true := by decide

/-- V43.25 ALTD CP B -/
theorem test_V43_25 : after
    { State.reset with
      main := { Bank.zero with a := 0x01, f := { Flags.clear with z := true }, b := 0x02 }
      pc := 0x0100
      mem := [(0x0100, 0x76), (0x0101, 0xB8)] }
    (fun t => !t.main.f.s && t.main.f.z && !t.main.f.lv && !t.main.f.c && t.alt.f.s && !t.alt.f.z && !t.alt.f.lv &&
      t.alt.f.c && t.pc == 0x0102) = true := by decide

/-- V43.26 INC B -/
theorem test_V43_26 : after
    { State.reset with
      main := { Bank.zero with f := { Flags.clear with c := true }, b := 0x7F }
      pc := 0x0100
      mem := [(0x0100, 0x04)] }
    (fun t => t.main.b == 0x80 && t.main.f.s && !t.main.f.z && t.main.f.lv && t.main.f.c && t.pc == 0x0101) = true :=
      by decide

/-- V43.36 NEG -/
theorem test_V43_36 : after
    { State.reset with
      main := { Bank.zero with a := 0x80 }
      pc := 0x0100
      mem := [(0x0100, 0xED), (0x0101, 0x44)] }
    (fun t => t.main.f.s && !t.main.f.z && t.main.f.lv && t.main.f.c && t.pc == 0x0102) = true := by decide

/-- V43.42 ALTD CCF -/
theorem test_V43_42 : after
    { State.reset with
      main := { Bank.zero with f := { Flags.clear with c := true } }
      alt := { Bank.zero with f := { Flags.clear with s := true, c := true } }
      pc := 0x0100
      mem := [(0x0100, 0x76), (0x0101, 0x3F)] }
    (fun t => !t.main.f.s && !t.main.f.z && !t.main.f.lv && t.main.f.c && t.alt.f.s && !t.alt.f.z && !t.alt.f.lv &&
      !t.alt.f.c && t.pc == 0x0102) = true := by decide

/-- V44.1 ADD HL,DE -/
theorem test_V44_1 : after
    { State.reset with
      main := { Bank.zero with f := { Flags.clear with s := true }, e := 0x01, h := 0xFF, l := 0xFF }
      pc := 0x0100
      mem := [(0x0100, 0x19)] }
    (fun t => t.main.h == 0x00 && t.main.l == 0x00 && t.main.f.s && !t.main.f.z && !t.main.f.lv && t.main.f.c && t.pc
      == 0x0101) = true := by decide

/-- V44.4 ALTD ADD HL,DE -/
theorem test_V44_4 : after
    { State.reset with
      main := { Bank.zero with d := 0x80, h := 0x80 }
      pc := 0x0100
      mem := [(0x0100, 0x76), (0x0101, 0x19)] }
    (fun t => !t.main.f.s && !t.main.f.z && !t.main.f.lv && !t.main.f.c && !t.alt.f.s && !t.alt.f.z && !t.alt.f.lv &&
      t.alt.f.c && t.pc == 0x0102) = true := by decide

/-- V44.5 ADD IX,IX -/
theorem test_V44_5 : after
    { State.reset with
      ix := 0x8001
      pc := 0x0100
      mem := [(0x0100, 0xDD), (0x0101, 0x29)] }
    (fun t => !t.main.f.s && !t.main.f.z && !t.main.f.lv && t.main.f.c && t.ix == 0x0002 && t.pc == 0x0102) = true :=
      by decide

/-- V44.6 ADD IY,BC -/
theorem test_V44_6 : after
    { State.reset with
      main := { Bank.zero with b := 0x02, c := 0x34 }
      iy := 0x1000
      pc := 0x0100
      mem := [(0x0100, 0xFD), (0x0101, 0x09)] }
    (fun t => !t.main.f.s && !t.main.f.z && !t.main.f.lv && !t.main.f.c && t.iy == 0x1234 && t.pc == 0x0102) = true
      := by decide

/-- V44.7 ADD SP,-2 -/
theorem test_V44_7 : after
    { State.reset with
      sp := 0xD000
      pc := 0x0100
      mem := [(0x0100, 0x27), (0x0101, 0xFE)] }
    (fun t => !t.main.f.s && !t.main.f.z && !t.main.f.lv && t.main.f.c && t.sp == 0xCFFE && t.pc == 0x0102) = true :=
      by decide

/-- V44.10 ADC HL,BC -/
theorem test_V44_10 : after
    { State.reset with
      main := { Bank.zero with f := { Flags.clear with c := true }, h := 0x7F, l := 0xFF }
      pc := 0x0100
      mem := [(0x0100, 0xED), (0x0101, 0x4A)] }
    (fun t => t.main.h == 0x80 && t.main.l == 0x00 && t.main.f.s && !t.main.f.z && t.main.f.lv && !t.main.f.c && t.pc
      == 0x0102) = true := by decide

/-- V44.12 SBC HL,DE -/
theorem test_V44_12 : after
    { State.reset with
      main := { Bank.zero with e := 0x01 }
      pc := 0x0100
      mem := [(0x0100, 0xED), (0x0101, 0x52)] }
    (fun t => t.main.h == 0xFF && t.main.l == 0xFF && t.main.f.s && !t.main.f.z && !t.main.f.lv && t.main.f.c && t.pc
      == 0x0102) = true := by decide

/-- V44.16 AND HL,DE -/
theorem test_V44_16 : after
    { State.reset with
      main := { Bank.zero with f := { Flags.clear with c := true }, d := 0xFF, e := 0xFF, h := 0x0F, l := 0xFF }
      pc := 0x0100
      mem := [(0x0100, 0xDC)] }
    (fun t => !t.main.f.s && !t.main.f.z && !t.main.f.lv && !t.main.f.c && t.pc == 0x0101) = true := by decide

/-- V44.18 OR HL,DE -/
theorem test_V44_18 : after
    { State.reset with
      main := { Bank.zero with e := 0x01, h := 0x80 }
      pc := 0x0100
      mem := [(0x0100, 0xEC)] }
    (fun t => t.main.l == 0x01 && t.main.f.s && !t.main.f.z && t.main.f.lv && !t.main.f.c && t.pc == 0x0101) = true
      := by decide

/-- V44.19 AND IX,DE -/
theorem test_V44_19 : after
    { State.reset with
      main := { Bank.zero with e := 0xFF }
      ix := 0x1234
      pc := 0x0100
      mem := [(0x0100, 0xDD), (0x0101, 0xDC)] }
    (fun t => !t.main.f.s && !t.main.f.z && !t.main.f.lv && !t.main.f.c && t.ix == 0x0034 && t.pc == 0x0102) = true
      := by decide

/-- V44.20 OR IY,DE -/
theorem test_V44_20 : after
    { State.reset with
      main := { Bank.zero with f := { Flags.clear with s := true, c := true } }
      pc := 0x0100
      mem := [(0x0100, 0xFD), (0x0101, 0xEC)] }
    (fun t => !t.main.f.s && t.main.f.z && !t.main.f.lv && !t.main.f.c && t.pc == 0x0102) = true := by decide

/-- V44.21 BOOL HL -/
theorem test_V44_21 : after
    { State.reset with
      main := { Bank.zero with f := { Flags.clear with lv := true, c := true }, h := 0x80 }
      pc := 0x0100
      mem := [(0x0100, 0xCC)] }
    (fun t => t.main.h == 0x00 && t.main.l == 0x01 && !t.main.f.s && !t.main.f.z && !t.main.f.lv && !t.main.f.c &&
      t.pc == 0x0101) = true := by decide

/-- V44.23 BOOL IX -/
theorem test_V44_23 : after
    { State.reset with
      ix := 0x0100
      pc := 0x0100
      mem := [(0x0100, 0xDD), (0x0101, 0xCC)] }
    (fun t => !t.main.f.s && !t.main.f.z && !t.main.f.lv && !t.main.f.c && t.ix == 0x0001 && t.pc == 0x0102) = true
      := by decide

/-- V44.25 INC BC -/
theorem test_V44_25 : after
    { State.reset with
      main := { Bank.zero with b := 0xFF, c := 0xFF }
      pc := 0x0100
      mem := [(0x0100, 0x03)] }
    (fun t => t.main.b == 0x00 && t.main.c == 0x00 && !t.main.f.s && !t.main.f.z && !t.main.f.lv && !t.main.f.c &&
      t.pc == 0x0101) = true := by decide

/-- V44.26 DEC HL -/
theorem test_V44_26 : after
    { State.reset with
      pc := 0x0100
      mem := [(0x0100, 0x2B)] }
    (fun t => t.main.h == 0xFF && t.main.l == 0xFF && !t.main.f.s && !t.main.f.z && !t.main.f.lv && !t.main.f.c &&
      t.pc == 0x0101) = true := by decide

/-- V44.30 INC IX -/
theorem test_V44_30 : after
    { State.reset with
      ix := 0xFFFF
      pc := 0x0100
      mem := [(0x0100, 0xDD), (0x0101, 0x23)] }
    (fun t => t.ix == 0x0000 && t.pc == 0x0102) = true := by decide

/-- V44.31 DEC IY -/
theorem test_V44_31 : after
    { State.reset with
      pc := 0x0100
      mem := [(0x0100, 0xFD), (0x0101, 0x2B)] }
    (fun t => t.iy == 0xFFFF && t.pc == 0x0102) = true := by decide

/-- V44.32 MUL -/
theorem test_V44_32 : after
    { State.reset with
      main := { Bank.zero with b := 0xFF, c := 0xFF, d := 0xFF, e := 0xFF, h := 0x55, l := 0x55 }
      pc := 0x0100
      mem := [(0x0100, 0xF7)] }
    (fun t => t.main.b == 0x00 && t.main.c == 0x01 && t.main.h == 0x00 && t.main.l == 0x00 && t.pc == 0x0101) = true
      := by decide

/-- V45.16 RL (HL) -/
theorem test_V45_16 : after
    { State.reset with
      main := { Bank.zero with f := { Flags.clear with c := true }, h := 0x45, l := 0x45 }
      pc := 0x0100
      mem := [(0x0100, 0xCB), (0x0101, 0x16), (0x4545, 0x6A)] }
    (fun t => t.main.f.s && !t.main.f.z && t.main.f.lv && !t.main.f.c && t.pc == 0x0102 && t.physRead 0x04545 ==
      0xD5) = true := by decide

/-- V45.19 SRA (IX+1) -/
theorem test_V45_19 : after
    { State.reset with
      ix := 0x4000
      pc := 0x0100
      mem := [(0x0100, 0xDD), (0x0101, 0xCB), (0x0102, 0x01), (0x0103, 0x2E), (0x4001, 0x80)] }
    (fun t => t.main.f.s && !t.main.f.z && t.main.f.lv && !t.main.f.c && t.pc == 0x0104 && t.physRead 0x04001 ==
      0xC0) = true := by decide

/-- V45.21 ALTD RLC (HL) -/
theorem test_V45_21 : after
    { State.reset with
      main := { Bank.zero with h := 0x40 }
      pc := 0x0100
      mem := [(0x0100, 0x76), (0x0101, 0xCB), (0x0102, 0x06), (0x4000, 0x80)] }
    (fun t => !t.main.f.s && !t.main.f.z && !t.main.f.lv && !t.main.f.c && !t.alt.f.s && !t.alt.f.z && !t.alt.f.lv &&
      t.alt.f.c && t.pc == 0x0103 && t.physRead 0x04000 == 0x01) = true := by decide

/-- V45.24 RL DE -/
theorem test_V45_24 : after
    { State.reset with
      main := { Bank.zero with f := { Flags.clear with c := true }, d := 0x08 }
      pc := 0x0100
      mem := [(0x0100, 0xF3)] }
    (fun t => t.main.d == 0x10 && t.main.e == 0x01 && !t.main.f.s && !t.main.f.z && t.main.f.lv && !t.main.f.c &&
      t.pc == 0x0101) = true := by decide

/-- V46.3 BIT 0,(HL) -/
theorem test_V46_3 : after
    { State.reset with
      main := { Bank.zero with f := { Flags.clear with z := true }, h := 0x40 }
      pc := 0x0100
      mem := [(0x0100, 0xCB), (0x0101, 0x46), (0x4000, 0x01)] }
    (fun t => !t.main.f.s && !t.main.f.z && !t.main.f.lv && !t.main.f.c && t.pc == 0x0102 && t.deferIrq) = true := by
      decide

/-- V46.5 ALTD BIT 1,C -/
theorem test_V46_5 : after
    { State.reset with
      main := { Bank.zero with c := 0x02 }
      alt := { Bank.zero with f := { Flags.clear with z := true } }
      pc := 0x0100
      mem := [(0x0100, 0x76), (0x0101, 0xCB), (0x0102, 0x49)] }
    (fun t => !t.main.f.s && !t.main.f.z && !t.main.f.lv && !t.main.f.c && !t.alt.f.s && !t.alt.f.z && !t.alt.f.lv &&
      !t.alt.f.c && t.pc == 0x0103) = true := by decide

/-- V47.1 JP 1234h -/
theorem test_V47_1 : after
    { State.reset with
      pc := 0x0100
      mem := [(0x0100, 0xC3), (0x0101, 0x34), (0x0102, 0x12)] }
    (fun t => t.pc == 0x1234) = true := by decide

/-- V47.2 JP Z,1234h -/
theorem test_V47_2 : after
    { State.reset with
      main := { Bank.zero with f := { Flags.clear with z := true } }
      pc := 0x0100
      mem := [(0x0100, 0xCA), (0x0101, 0x34), (0x0102, 0x12)] }
    (fun t => t.pc == 0x1234) = true := by decide

/-- V47.6 JP (HL) -/
theorem test_V47_6 : after
    { State.reset with
      main := { Bank.zero with h := 0xE0 }
      pc := 0x0100
      mem := [(0x0100, 0xE9)] }
    (fun t => t.pc == 0xE000) = true := by decide

/-- V47.7 JP (IX) -/
theorem test_V47_7 : after
    { State.reset with
      ix := 0x0200
      pc := 0x0100
      mem := [(0x0100, 0xDD), (0x0101, 0xE9)] }
    (fun t => t.pc == 0x0200) = true := by decide

/-- V47.10 JR byte 80 -/
theorem test_V47_10 : after
    { State.reset with
      pc := 0x0100
      mem := [(0x0100, 0x18), (0x0101, 0x80)] }
    (fun t => t.pc == 0x0082) = true := by decide

/-- V47.12 JR NC,byte 10 -/
theorem test_V47_12 : after
    { State.reset with
      main := { Bank.zero with f := { Flags.clear with c := true } }
      pc := 0x0100
      mem := [(0x0100, 0x30), (0x0101, 0x10)] }
    (fun t => t.pc == 0x0102) = true := by decide

/-- V47.14 DJNZ byte FE -/
theorem test_V47_14 : after
    { State.reset with
      main := { Bank.zero with f := { Flags.clear with z := true }, b := 0x02 }
      pc := 0x0100
      mem := [(0x0100, 0x10), (0x0101, 0xFE)] }
    (fun t => t.main.b == 0x01 && !t.main.f.s && t.main.f.z && !t.main.f.lv && !t.main.f.c && t.pc == 0x0100) = true
      := by decide

/-- V47.17 ALTD DJNZ byte 10 -/
theorem test_V47_17 : after
    { State.reset with
      main := { Bank.zero with b := 0x05 }
      pc := 0x0100
      mem := [(0x0100, 0x76), (0x0101, 0x10), (0x0102, 0x10)] }
    (fun t => t.alt.b == 0x04 && t.pc == 0x0113) = true := by decide

/-- V47.18 CALL 2000h -/
theorem test_V47_18 : after
    { State.reset with
      sp := 0xD000
      pc := 0x0100
      mem := [(0x0100, 0xCD), (0x0101, 0x00), (0x0102, 0x20)] }
    (fun t => t.sp == 0xCFFE && t.pc == 0x2000 && t.physRead 0x0CFFE == 0x03 && t.physRead 0x0CFFF == 0x01) = true :=
      by decide

/-- V47.19 RET -/
theorem test_V47_19 : after
    { State.reset with
      sp := 0xCFFE
      pc := 0x0100
      mem := [(0x0100, 0xC9), (0xCFFE, 0x03), (0xCFFF, 0x01)] }
    (fun t => t.sp == 0xD000 && t.pc == 0x0103) = true := by decide

/-- V47.20 RET NZ -/
theorem test_V47_20 : after
    { State.reset with
      main := { Bank.zero with f := { Flags.clear with z := true } }
      sp := 0xCFFE
      pc := 0x0100
      mem := [(0x0100, 0xC0), (0xCFFE, 0x03), (0xCFFF, 0x01)] }
    (fun t => t.pc == 0x0101) = true := by decide

/-- V47.22 LCALL 20h,E100h -/
theorem test_V47_22 : after
    { State.reset with
      sp := 0xD000
      xpc := 0x05
      pc := 0x0100
      mem := [(0x0100, 0xCF), (0x0101, 0x00), (0x0102, 0xE1), (0x0103, 0x20)] }
    (fun t => t.sp == 0xCFFD && t.xpc == 0x20 && t.pc == 0xE100 && t.physRead 0x0CFFD == 0x04 && t.physRead 0x0CFFE
      == 0x01 && t.physRead 0x0CFFF == 0x05) = true := by decide

/-- V47.23 LJP 7Fh,E000h -/
theorem test_V47_23 : after
    { State.reset with
      xpc := 0x01
      pc := 0x0100
      mem := [(0x0100, 0xC7), (0x0101, 0x00), (0x0102, 0xE0), (0x0103, 0x7F)] }
    (fun t => t.xpc == 0x7F && t.pc == 0xE000) = true := by decide

/-- V47.24 LRET -/
theorem test_V47_24 : after
    { State.reset with
      sp := 0xCFFD
      xpc := 0x20
      pc := 0x0100
      mem := [(0x0100, 0xED), (0x0101, 0x45), (0xCFFD, 0x04), (0xCFFE, 0x01), (0xCFFF, 0x05)] }
    (fun t => t.sp == 0xD000 && t.xpc == 0x05 && t.pc == 0x0104) = true := by decide

/-- V47.26 RST 38 -/
theorem test_V47_26 : after
    { State.reset with
      sp := 0xD000
      pc := 0x0100
      mem := [(0x0100, 0xFF)] }
    (fun t => t.sp == 0xCFFE && t.pc == 0x0070 && t.physRead 0x0CFFE == 0x01 && t.physRead 0x0CFFF == 0x01) = true :=
      by decide

/-- V48.1 LDI -/
theorem test_V48_1 : after
    { State.reset with
      main := { Bank.zero with c := 0x02, d := 0x50, h := 0x40 }
      pc := 0x0100
      mem := [(0x0100, 0xED), (0x0101, 0xA0), (0x4000, 0x11)] }
    (fun t => t.main.c == 0x01 && t.main.e == 0x01 && t.main.l == 0x01 && !t.main.f.s && !t.main.f.z && t.main.f.lv
      && !t.main.f.c && t.pc == 0x0102 && t.physRead 0x05000 == 0x11) = true := by decide

/-- V48.3 LDD -/
theorem test_V48_3 : after
    { State.reset with
      main := { Bank.zero with c := 0x03, d := 0x50, h := 0x40 }
      pc := 0x0100
      mem := [(0x0100, 0xED), (0x0101, 0xA8), (0x4000, 0x22)] }
    (fun t => t.main.c == 0x02 && t.main.d == 0x4F && t.main.e == 0xFF && t.main.h == 0x3F && t.main.l == 0xFF &&
      !t.main.f.s && !t.main.f.z && t.main.f.lv && !t.main.f.c && t.pc == 0x0102 && t.physRead 0x05000 == 0x22) =
      true := by decide

/-- V48.4 LDIR, first step -/
theorem test_V48_4 : after
    { State.reset with
      main := { Bank.zero with c := 0x02, d := 0x50, h := 0x40 }
      pc := 0x0100
      mem := [(0x0100, 0xED), (0x0101, 0xB0), (0x4000, 0x0A), (0x4001, 0x0B)] }
    (fun t => t.main.c == 0x01 && t.main.e == 0x01 && t.main.l == 0x01 && !t.main.f.s && !t.main.f.z && t.main.f.lv
      && !t.main.f.c && t.pc == 0x0100 && t.physRead 0x05000 == 0x0A) = true := by decide

/-- V48.6 LDIR entered with BC=0 -/
theorem test_V48_6 : after
    { State.reset with
      main := { Bank.zero with d := 0x50, h := 0x40 }
      pc := 0x0100
      mem := [(0x0100, 0xED), (0x0101, 0xB0), (0x4000, 0x0A)] }
    (fun t => t.main.b == 0xFF && t.main.c == 0xFF && t.main.e == 0x01 && t.main.l == 0x01 && !t.main.f.s &&
      !t.main.f.z && t.main.f.lv && !t.main.f.c && t.pc == 0x0100 && t.physRead 0x05000 == 0x0A) = true := by decide

/-- V48.19 UMA, maximum operands -/
theorem test_V48_19 : after
    { State.reset with
      main := { Bank.zero with f := { Flags.clear with c := true }, c := 0x01, d := 0xFF, e := 0xFF, h := 0x42 }
      alt := { Bank.zero with d := 0xFF, e := 0xFF }
      ix := 0x4000
      iy := 0x4100
      pc := 0x0100
      mem := [(0x0100, 0xED), (0x0101, 0xC0), (0x4000, 0xFF), (0x4100, 0xFF)] }
    (fun t => t.main.c == 0x00 && t.main.l == 0x01 && !t.main.f.s && !t.main.f.z && !t.main.f.lv && t.main.f.c &&
      t.alt.d == 0x00 && t.alt.e == 0x00 && t.ix == 0x4001 && t.iy == 0x4101 && t.pc == 0x0102 && t.physRead 0x04200
      == 0x00) = true := by decide

/-- V48.22 UMS, borrow -/
theorem test_V48_22 : after
    { State.reset with
      main := { Bank.zero with c := 0x01, e := 0x01, h := 0x42 }
      ix := 0x4000
      iy := 0x4100
      pc := 0x0100
      mem := [(0x0100, 0xED), (0x0101, 0xC8), (0x4000, 0x00), (0x4100, 0x01)] }
    (fun t => t.main.c == 0x00 && t.main.l == 0x01 && !t.main.f.s && !t.main.f.z && !t.main.f.lv && t.main.f.c &&
      t.alt.d == 0xFF && t.alt.e == 0xFF && t.ix == 0x4001 && t.iy == 0x4101 && t.pc == 0x0102 && t.physRead 0x04200
      == 0xFF) = true := by decide

/-- V49.1 NOP -/
theorem test_V49_1 : after
    { State.reset with
      pc := 0x0100
      mem := [(0x0100, 0x00)] }
    (fun t => t.pc == 0x0101) = true := by decide

/-- V49.7 ALTD LD (HL),B -/
theorem test_V49_7 : after
    { State.reset with
      main := { Bank.zero with b := 0x12, h := 0x40 }
      pc := 0x0100
      mem := [(0x0100, 0x76), (0x0101, 0x70)] }
    (fun t => t.pc == 0x0102 && t.physRead 0x04000 == 0x12) = true := by decide

/-- V49.8 IOI LD B,C -/
theorem test_V49_8 : after
    { State.reset with
      main := { Bank.zero with c := 0x34 }
      pc := 0x0100
      mem := [(0x0100, 0xD3), (0x0101, 0x41)] }
    (fun t => t.main.b == 0x34 && t.pc == 0x0102) = true := by decide

/-- V49.10 IPSET 0 -/
theorem test_V49_10 : after
    { State.reset with
      pc := 0x0100
      mem := [(0x0100, 0xED), (0x0101, 0x46)] }
    (fun t => t.ip == 0xFC && t.pc == 0x0102 && t.deferIrq) = true := by decide

/-- V49.11 IPSET 1 -/
theorem test_V49_11 : after
    { State.reset with
      ip := 0xE4
      pc := 0x0100
      mem := [(0x0100, 0xED), (0x0101, 0x56)] }
    (fun t => t.ip == 0x91 && t.pc == 0x0102 && t.deferIrq) = true := by decide

/-- V49.12 IPSET 2 -/
theorem test_V49_12 : after
    { State.reset with
      ip := 0x01
      pc := 0x0100
      mem := [(0x0100, 0xED), (0x0101, 0x4E)] }
    (fun t => t.ip == 0x06 && t.pc == 0x0102 && t.deferIrq) = true := by decide

/-- V49.13 IPSET 3 -/
theorem test_V49_13 : after
    { State.reset with
      ip := 0x06
      pc := 0x0100
      mem := [(0x0100, 0xED), (0x0101, 0x5E)] }
    (fun t => t.ip == 0x1B && t.pc == 0x0102 && t.deferIrq) = true := by decide

/-- V49.14 IPRES -/
theorem test_V49_14 : after
    { State.reset with
      ip := 0x06
      pc := 0x0100
      mem := [(0x0100, 0xED), (0x0101, 0x5D)] }
    (fun t => t.ip == 0x81 && t.pc == 0x0102 && t.deferIrq) = true := by decide

/-- V49.16 RETI -/
theorem test_V49_16 : after
    { State.reset with
      sp := 0xCFFD
      ip := 0x03
      pc := 0x0100
      mem := [(0x0100, 0xED), (0x0101, 0x4D), (0xCFFD, 0x54), (0xCFFE, 0x03), (0xCFFF, 0x01)] }
    (fun t => t.sp == 0xD000 && t.ip == 0x54 && t.pc == 0x0103 && t.deferIrq) = true := by decide

/-- V49.17 SETUSR -/
theorem test_V49_17 : after
    { State.reset with
      su := 0x41
      pc := 0x0100
      mem := [(0x0100, 0xED), (0x0101, 0x6F)] }
    (fun t => t.su == 0x05 && t.pc == 0x0102 && t.deferIrq) = true := by decide

/-- V49.18 SURES -/
theorem test_V49_18 : after
    { State.reset with
      su := 0x05
      pc := 0x0100
      mem := [(0x0100, 0xED), (0x0101, 0x7D)] }
    (fun t => t.su == 0x41 && t.pc == 0x0102 && t.deferIrq) = true := by decide

/-- V49.19 RDMODE -/
theorem test_V49_19 : after
    { State.reset with
      main := { Bank.zero with f := { Flags.clear with z := true } }
      su := 0x01
      pc := 0x0100
      mem := [(0x0100, 0xED), (0x0101, 0x7F)] }
    (fun t => !t.main.f.s && t.main.f.z && !t.main.f.lv && t.main.f.c && t.pc == 0x0102 && t.deferIrq) = true := by
      decide

/-- V49.21 SYSCALL -/
theorem test_V49_21 : after
    { State.reset with
      sp := 0xD000
      iir := 0x12
      pc := 0x0100
      mem := [(0x0100, 0xED), (0x0101, 0x75)] }
    (fun t => t.sp == 0xCFFE && t.pc == 0x1260 && t.physRead 0x0CFFE == 0x02 && t.physRead 0x0CFFF == 0x01) = true :=
      by decide

/-- V60.2 (boundary) request above current priority -/
theorem test_V60_2 : after
    { State.reset with
      sp := 0xD000
      iir := 0x12
      ip := 0x01
      pc := 0x0100
      irqs := [[⟨2, .internal, 0x40⟩]]
      mem := [(0x0100, 0x00)] }
    (fun t => t.sp == 0xCFFE && t.ip == 0x06 && t.pc == 0x1240 && t.physRead 0x0CFFE == 0x00 && t.physRead 0x0CFFF ==
      0x01) = true := by decide

/-- V60.3 (boundary) external request -/
theorem test_V60_3 : after
    { State.reset with
      sp := 0xD000
      iir := 0x12
      eir := 0x34
      ip := 0x00
      pc := 0x0100
      irqs := [[⟨3, .external, 0x10⟩]]
      mem := [(0x0100, 0x00)] }
    (fun t => t.sp == 0xCFFE && t.ip == 0x03 && t.pc == 0x3410 && t.physRead 0x0CFFE == 0x00 && t.physRead 0x0CFFF ==
      0x01) = true := by decide

/-- V60.5 (boundary) all masked at priority 3 -/
theorem test_V60_5 : after
    { State.reset with
      sp := 0xD000
      iir := 0x12
      ip := 0x03
      pc := 0x0100
      irqs := [[⟨3, .internal, 0x80⟩]]
      mem := [(0x0100, 0x00)] }
    (fun t => t.pc == 0x0101) = true := by decide

/-- V60.6 (boundary) deferred after a privileged instruction -/
theorem test_V60_6 : after
    { State.reset with
      sp := 0xD000
      iir := 0x12
      ip := 0x00
      pc := 0x0100
      deferIrq := true
      irqs := [[⟨1, .internal, 0x40⟩]]
      mem := [(0x0100, 0x00)] }
    (fun t => t.pc == 0x0101) = true := by decide

/-! ### I/O accesses: a read answers the free value of the device, a write goes on record -/

/-- What a test of I/O sees: A, A', PC and the accesses. -/
def ioView (s : State) : Option (Byte × Byte × Word × List IoEvent) :=
  match step s with
  | .next t => some (t.main.a, t.alt.a, t.pc, t.io)
  | _ => none

/-- A state with a program at 0100h and HL. -/
def at0100 (mem : Memory) (h l : Byte) : State :=
  { State.reset with main := { Bank.zero with h := h, l := l }, pc := 0x0100, mem := mem }

/-- The value of an internal read as the first access. -/
abbrev io0 (a : Word) : Byte := Config.ioRead [] .internal a

/-- V40.5 IOI LD A,(HL): the low byte of HL is the I/O address. -/
theorem test_V40_5 : ioView (at0100 [(0x0100, 0xD3), (0x0101, 0x7E)] 0x12 0xC0) =
    some (io0 0x00C0, 0x00, 0x0102, [.read .internal 0x00C0 (io0 0x00C0)]) := by rfl

/-- V49.6 IOI ALTD LD A,(HL): both prefixes. -/
theorem test_V49_6 : ioView (at0100 [(0x0100, 0xD3), (0x0101, 0x76), (0x0102, 0x7E)] 0x00 0x40) =
    some (0x00, io0 0x0040, 0x0103, [.read .internal 0x0040 (io0 0x0040)]) := by rfl

/-- V41.14 IOI LD (00FFh),HL: the second byte at internal address 00. -/
theorem test_V41_14 :
    ioView (at0100 [(0x0100, 0xD3), (0x0101, 0x22), (0x0102, 0xFF), (0x0103, 0x00)] 0x12 0x34) =
    some (0x00, 0x00, 0x0104, [.write .internal 0x00FF 0x34, .write .internal 0x0000 0x12]) := by rfl

/-- V43.33 IOI INC (HL): read and write in I/O space. -/
theorem test_V43_33 : ioView (at0100 [(0x0100, 0xD3), (0x0101, 0x34)] 0x00 0x50) =
    some (0x00, 0x00, 0x0102, [.read .internal 0x0050 (io0 0x0050), .write .internal 0x0050 (io0 0x0050 + 1)]) := by
  rfl

/-- V46.12 IOI RES 7,(HL): read and write in I/O space. -/
theorem test_V46_12 : ioView (at0100 [(0x0100, 0xD3), (0x0101, 0xCB), (0x0102, 0xBE)] 0x00 0x24) =
    some (0x00, 0x00, 0x0103,
      [.read .internal 0x0024 (io0 0x0024), .write .internal 0x0024 (io0 0x0024 &&& ~~~0x80)]) := by rfl

/-- V48.17 IOI LDIR, one of two bytes: the destination is in I/O space, PC is again the prefix byte. -/
theorem test_V48_17 :
    ioView { State.reset with
      main := { Bank.zero with b := 0x00, c := 0x02, d := 0x00, e := 0x10, h := 0x40, l := 0x00 }
      pc := 0x0100
      mem := [(0x0100, 0xD3), (0x0101, 0xED), (0x0102, 0xB0), (0x4000, 0x0A)] } =
    some (0x00, 0x00, 0x0100, [.write .internal 0x0010 0x0A]) := by rfl

/-- An external write while external writes are inhibited is not performed, and is performed otherwise (20_memory.md
R102, R103). -/
theorem test_external_write :
    ioView (at0100 [(0x0100, 0xDB), (0x0101, 0x74)] 0x12 0x34) = some (0x00, 0x00, 0x0102, []) ∧
    ioView { at0100 [(0x0100, 0xDB), (0x0101, 0x74)] 0x12 0x34 with
      platform := { Platform.reset with extWriteInhibit := false } } =
    some (0x00, 0x00, 0x0102, [.write .external 0x1234 0x12]) := ⟨rfl, rfl⟩

/-! ### Where the spec asks the model to stop -/

/-- V41.4 ALTD LD SP,mn -/
theorem test_V41_4 :
    stops (at0100 [(0x0100, 0x76), (0x0101, 0x31), (0x0102, 0x34), (0x0103, 0x12)] 0 0) .altdOnSP = true := by decide

/-- V49.3 two ALTD -/
theorem test_V49_3 : stops (at0100 [(0x0100, 0x76), (0x0101, 0x76), (0x0102, 0x3C)] 0 0) .doubleALTD = true := by decide

/-- V49.4 IOI and IOE -/
theorem test_V49_4 :
    stops (at0100 [(0x0100, 0xD3), (0x0101, 0xDB), (0x0102, 0x7E)] 0 0) .doubleIOPrefix = true := by decide

/-- V70.1, its second step: LD B,(HL) directly after an instruction with IOI on a Rabbit 2000. -/
theorem test_V70_1 : stops { at0100 [(0x0100, 0x46), (0x4000, 0x77)] 0x40 0x00 with
    variant := .r2000, lastHadIoPrefix := true } .r2000IOPrefixBug = true := by decide

/-! ## Witnesses: for every statement with hypotheses, states and operands that meet them

A premise on the state is met by a concrete state, each clause by a boundary value of its own; where a premise only names
an instruction of a group, the witness names one of each kind and shows that it runs to a next state. -/

/-- The instruction answers a next state. -/
def runs (i : Instr) (s : State) : Bool :=
  match exec i s with
  | .next _ => true
  | _ => false

/-- A state under ALTD. -/
def underALTD : State := { State.reset with ctx := ⟨true, none, 0⟩ }

/-- A state under IOI. -/
def underIOI : State := { State.reset with ctx := ⟨false, some .internal, 0⟩ }

/-- Reset with eight bytes at 0. -/
def program (a b c d e f : Byte) : State :=
  { State.reset with mem := [(0, a), (1, b), (2, c), (3, d), (4, e), (5, f), (6, 0), (7, 0)] }

theorem test_witness_DecodeOfEncode :
    Instr.existsOn .r2000 .ld_E_E = true ∧ Instr.existsOn .r3000 (.lcall_x_mn 0xFFFF 0xFF) = true ∧
    Instr.existsOn .r3000a .idet = true := by decide

theorem test_witness_EncodeOfDecode :
    decode .r2000 [0x5B, 0x00] = .ok (.ld_E_E, [0x00]) ∧
    decode .r3000a [0xDD, 0xCB, 0xFF, 0xC6] = .ok (.set_0_atIXd 0xFF, []) := ⟨rfl, rfl⟩

/-- At PC, behind one prefix byte, behind two in either order. -/
theorem test_witness_UndefinedBytesStop :
    (program 0xCB 0x30 0 0 0 0).noInterrupt ∧
    decode .r3000a (program 0xCB 0x30 0 0 0 0).fetchBytes = .error (.undefinedOpcode [0xCB, 0x30]) ∧
    (program 0xD3 0xCB 0x30 0 0 0).noInterrupt ∧
    decode .r3000a (program 0xD3 0xCB 0x30 0 0 0).fetchBytes = .ok (.ioi, [0xCB, 0x30, 0]) ∧
    decode .r3000a ((program 0xD3 0xCB 0x30 0 0 0).behind PrefixCtx.idle 1).fetchBytes =
      .error (.undefinedOpcode [0xCB, 0x30]) ∧
    decode .r3000a (program 0xD3 0x76 0xED 0x00 0 0).fetchBytes = .ok (.ioi, [0x76, 0xED, 0]) ∧
    decode .r3000a ((program 0xD3 0x76 0xED 0x00 0 0).behind PrefixCtx.idle 1).fetchBytes = .ok (.altd, [0xED, 0, 0]) ∧
    decode .r3000a ((program 0xD3 0x76 0xED 0x00 0 0).behind PrefixCtx.idle 2).fetchBytes =
      .error (.undefinedOpcode [0xED, 0x00]) ∧
    decode .r3000a (program 0x76 0xDB 0xED 0x00 0 0).fetchBytes = .ok (.altd, [0xDB, 0xED, 0]) ∧
    decode .r3000a ((program 0x76 0xDB 0xED 0x00 0 0).behind PrefixCtx.idle 1).fetchBytes = .ok (.ioe, [0xED, 0, 0]) ∧
    decode .r3000a ((program 0x76 0xDB 0xED 0x00 0 0).behind PrefixCtx.idle 2).fetchBytes =
      .error (.undefinedOpcode [0xED, 0x00]) := ⟨rfl, rfl, rfl, rfl, rfl, rfl, rfl, rfl, rfl, rfl, rfl⟩

theorem test_witness_StepRunsDecodedInstruction :
    (program 0x3E 0xFF 0 0 0 0).noInterrupt ∧
    decode .r3000a (program 0x3E 0xFF 0 0 0 0).fetchBytes = .ok (.ld_A_n 0xFF, [0, 0]) ∧
    (Instr.ld_A_n 0xFF).isPrefix = false ∧
    ((program 0x3E 0xFF 0 0 0 0).behind ⟨false, none, 0⟩ 0).hitsIoBug (.ld_A_n 0xFF) = false ∧
    (program 0x3E 0xFF 0 0 0 0).userRestriction = none := ⟨rfl, rfl, rfl, rfl, rfl⟩

/-- One prefix byte, two in the one order, two in the other; each repeated prefix byte, as the second and as the third. -/
theorem test_witness_StepRunsPrefixedInstruction :
    (program 0xDB 0x7E 0 0 0 0).noInterrupt ∧
    decode .r3000a (program 0xDB 0x7E 0 0 0 0).fetchBytes = .ok (.ioe, [0x7E, 0, 0]) ∧ Instr.ioe.isPrefix = true ∧
    decode .r3000a ((program 0xDB 0x7E 0 0 0 0).behind PrefixCtx.idle 1).fetchBytes = .ok (.ld_A_atHL, [0, 0, 0]) ∧
    Instr.ld_A_atHL.isPrefix = false ∧
    (program 0x76 0xD3 0x7E 0 0 0).noInterrupt ∧
    decode .r3000a (program 0x76 0xD3 0x7E 0 0 0).fetchBytes = .ok (.altd, [0xD3, 0x7E, 0]) ∧
    decode .r3000a ((program 0x76 0xD3 0x7E 0 0 0).behind PrefixCtx.idle 1).fetchBytes = .ok (.ioi, [0x7E, 0, 0]) ∧
    decode .r3000a ((program 0x76 0xD3 0x7E 0 0 0).behind PrefixCtx.idle 2).fetchBytes = .ok (.ld_A_atHL, [0, 0, 0]) ∧
    decode .r3000a (program 0xD3 0x76 0x7E 0 0 0).fetchBytes = .ok (.ioi, [0x76, 0x7E, 0]) ∧
    decode .r3000a ((program 0xD3 0x76 0x7E 0 0 0).behind PrefixCtx.idle 1).fetchBytes = .ok (.altd, [0x7E, 0, 0]) ∧
    stops (program 0x76 0x76 0x7E 0 0 0) .doubleALTD = true ∧ stops (program 0xD3 0xDB 0x7E 0 0 0) .doubleIOPrefix = true ∧
    stops (program 0xD3 0x76 0x76 0 0 0) .doubleALTD = true ∧ stops (program 0x76 0xD3 0xDB 0 0 0) .doubleIOPrefix = true :=
  ⟨rfl, rfl, rfl, rfl, rfl, rfl, rfl, rfl, rfl, rfl, rfl, by decide, by decide, by decide, by decide⟩

theorem test_witness_PrefixBytesAndTheirStops :
    State.reset.ctx.altd = false ∧ underALTD.ctx.altd = true ∧ State.reset.ctx.iop = none ∧ underIOI.ctx.iop ≠ none := by
  decide

/-- The state before LD B,(HL) after an instruction with an I/O prefix, on a chip. -/
def afterIo (v : Variant) : State := { program 0x46 0 0 0 0 0 with variant := v, lastHadIoPrefix := true }

theorem test_witness_Rabbit2000DefectStops :
    (afterIo .r2000).noInterrupt ∧ decode .r2000 (afterIo .r2000).fetchBytes = .ok (.ld_B_atHL, [0, 0, 0]) ∧
    (afterIo .r3000).noInterrupt ∧ decode .r3000 (afterIo .r3000).fetchBytes = .ok (.ld_B_atHL, [0, 0, 0]) ∧
    Instr.ld_B_atHL.isPrefix = false ∧ Instr.ld_B_atHL.isOneByteHL = true ∧ (afterIo .r2000).lastHadIoPrefix = true :=
  ⟨rfl, rfl, rfl, rfl, rfl, rfl, rfl⟩

/-- A state with memory listed meets the invariant, and a store leads on from it. -/
theorem test_witness_StepKeepsInvariant :
    (program 0x36 0xFF 0 0 0 0).mem.wf ∧ (program 0x36 0xFF 0 0 0 0).ctx = PrefixCtx.idle ∧
    after (program 0x36 0xFF 0 0 0 0) (fun t => t.physRead 0 == 0xFF) = true := by decide

theorem test_witness_StepKeepsParameters :
    after { program 0xED 0x46 0 0 0 0 with variant := .r3000 } (fun t => t.variant == .r3000 && !t.smvPending) = true := by
  decide

theorem test_witness_PrivilegedInstructionsDefer :
    Instr.ipres.isPrivileged = true ∧ runs .ipres State.reset = true ∧
    Instr.nop.isPrivileged = false ∧ runs .nop State.reset = true := by decide

theorem test_witness_SpecialRegisterWriters :
    Instr.writesIP .nop = false ∧ Instr.writesSU .nop = false ∧ Instr.writesXPC .nop = false ∧
    runs .nop State.reset = true ∧ runs .ld_EIR_A State.reset = true ∧ runs .ld_IIR_A State.reset = true := by decide

theorem test_witness_BanksKeptApart :
    State.reset.ctx.altd = false ∧ Instr.writesAlt .inc_A = false ∧ runs .inc_A State.reset = true ∧
    underALTD.ctx.altd = true ∧ Instr.writesMain .inc_A = false ∧ runs .inc_A underALTD = true := by decide

/-- Both sides of every condition, and the carry into and the borrow from the highest bit. -/
theorem test_witness_Helpers8Compute :
    (add8 0x7F 0x00 true).2 = { s := some true, z := some false, lv := some true, c := some false } ∧
    (add8 0xFF 0x00 true).2 = { s := some false, z := some true, lv := some false, c := some true } ∧
    (sub8 0x80 0x00 true).2 = { s := some false, z := some false, lv := some true, c := some false } ∧
    (sub8 0x00 0x00 true).2 = { s := some true, z := some false, lv := some false, c := some true } ∧
    (logic8 0x10).2.lv = some true ∧ (logic8 0x0F).2.lv = some false := by decide

theorem test_witness_Helpers16Compute :
    (add16 0x7FFF 0x0000 true).2 = { s := some true, z := some false, lv := some true, c := some false } ∧
    (add16 0xFFFF 0x0000 true).2 = { s := some false, z := some true, lv := some false, c := some true } ∧
    (sub16 0x8000 0x0000 true).2 = { s := some false, z := some false, lv := some true, c := some false } ∧
    (logic16 0x1000).lv = some true ∧ (logic16 0x0FFF).lv = some false := by decide

/-- The highest address wraps to 0. -/
theorem test_witness_WordStoreSeenAsBytes :
    State.reset.apart 0xFFFF (0xFFFF + 1) ∧ State.reset.ctx = PrefixCtx.idle ∧
    runs (.ld_atMn_HL 0xFFFF) State.reset = true ∧ (0xFFFF + 1 : Word) = 0x0000 := ⟨.inl rfl, by decide⟩

/-- A mapping with three segments, from 4000h and C000h. -/
def mapped : State :=
  { State.reset with xpc := 0xFF, platform := { Platform.reset with segsize := 0xC4, dataseg := 0x10, stackseg := 0x20 } }

/-- Each segment's first and last address; two addresses that differ in their low twelve bits. -/
theorem test_witness_TranslateAddsSegment :
    mapped.translation = none ∧ (0xFFFF : Word).toNat % 4096 ≠ (0x0000 : Word).toNat % 4096 ∧
    mapped.translate 0x0000 = 0x00000 ∧ mapped.translate 0x3FFF = 0x03FFF ∧
    mapped.translate 0x4000 = 0x14000 ∧ mapped.translate 0xBFFF = 0x1BFFF ∧
    mapped.translate 0xC000 = 0x2C000 ∧ mapped.translate 0xDFFF = 0x2DFFF ∧
    mapped.translate 0xE000 = 0x0D000 ∧ mapped.translate 0xFFFF = 0x0EFFF := by decide

/-- A platform's mapping in place of the default: below E000 it does not get XPC, from there on it does. -/
theorem test_mapping_of_a_platform :
    { mapped with translation := some 5 }.translate 0xDFFF = Config.translate 5 ⟨0, 0, mapped.platform, []⟩ 0xDFFF ∧
    { mapped with translation := some 5 }.translate 0xE000 = Config.translate 5 ⟨0xFF, 0, mapped.platform, []⟩ 0xE000 :=
  ⟨rfl, rfl⟩

theorem test_witness_SpecialRegisterLoads :
    runs .ld_A_EIR State.reset = true ∧ runs .ld_A_IIR State.reset = true := by decide

theorem test_witness_RegisterLoads16 :
    State.reset.ctx.altd = false ∧ runs (.ld_SP_mn 0xFFFF) State.reset = true ∧
    runs .ld_HL'_BC State.reset = true ∧ runs .ld_BC'_DE State.reset = true := by decide

theorem test_witness_MemoryLoads16 :
    State.reset.ctx.altd = false ∧ runs (.ld_SP_atMn 0xFFFF) State.reset = true ∧
    runs (.ld_HL_atMn 0xFFFF) State.reset = true ∧ runs (.ld_DE_atMn 0) State.reset = true ∧
    runs (.ld_HL_atHLd 0x80) State.reset = true ∧ runs (.ld_HL_atIYd 0x7F) State.reset = true := by decide

theorem test_witness_LdpTransfers :
    runs .ldp_atHL_HL State.reset = true ∧ runs .ldp_atIX_HL State.reset = true ∧
    runs (.ldp_atMn_HL 0xFFFF) State.reset = true ∧ runs (.ldp_atMn_IY 0xFFFF) State.reset = true ∧
    runs .ldp_HL_atHL State.reset = true ∧ runs .ldp_HL_atIY State.reset = true ∧
    runs (.ldp_HL_atMn 0xFFFF) State.reset = true := by decide

theorem test_witness_StackOrder :
    State.reset.apart (0x0000 - 1) (0x0000 - 2) ∧ State.reset.sp = 0x0000 ∧
    runs .push_BC State.reset = true ∧ runs .push_AF State.reset = true ∧ runs .push_IY State.reset = true :=
  ⟨.inl rfl, by decide⟩

theorem test_witness_RegisterExchanges :
    State.reset.ctx.altd = false ∧ runs .ex_DE_HL State.reset = true ∧ runs .ex_DE'_HL State.reset = true ∧
    underALTD.ctx.altd = true ∧ runs .ex_DE_HL underALTD = true ∧ runs .ex_DE'_HL underALTD = true := by decide

theorem test_witness_Additions8 :
    runs (.add_A_n 0xFF) State.reset = true ∧ runs (.adc_A_n 0xFF) State.reset = true ∧
    State.reset.main.f.c = false := by decide

theorem test_witness_Subtractions8 :
    runs (.sub_n 0xFF) State.reset = true ∧ runs (.sbc_A_n 0xFF) State.reset = true := by decide

theorem test_witness_Logic8 :
    runs (.and_n 0xFF) State.reset = true ∧ runs (.xor_n 0xFF) State.reset = true ∧
    runs (.or_n 0xFF) State.reset = true := by decide

theorem test_witness_IncDec8 :
    runs .inc_atHL State.reset = true ∧ runs (.inc_atIXd 0x80) State.reset = true ∧
    runs .dec_atHL State.reset = true ∧ runs (.dec_atIYd 0x7F) State.reset = true := by decide

theorem test_witness_LogicAndBool16 :
    runs .and_HL_DE State.reset = true ∧ runs .or_HL_DE State.reset = true ∧ runs .and_IX_DE State.reset = true ∧
    runs .or_IY_DE State.reset = true := by decide

theorem test_witness_IncDec16 :
    State.reset.ctx.altd = false ∧ runs .inc_SP State.reset = true ∧ runs .dec_SP State.reset = true := by decide

theorem test_witness_RegisterRotates :
    runs .rlca State.reset = true ∧ runs .rla State.reset = true ∧ runs .rrca State.reset = true ∧
    runs .rra State.reset = true := by decide

theorem test_witness_MemoryRotates :
    runs .sra_atHL State.reset = true ∧ runs (.rl_atIYd 0x80) State.reset = true := by decide

theorem test_witness_WordRotates : runs .rr_DE State.reset = true ∧ runs .rr_HL State.reset = true := by decide

/-- The lowest and the highest bit. -/
theorem test_witness_BitWrites :
    runs .res_0_A State.reset = true ∧ runs .set_7_A State.reset = true ∧ runs .res_7_atHL State.reset = true ∧
    runs .set_0_atHL State.reset = true ∧ runs (.res_0_atIXd 0xFF) State.reset = true ∧
    runs (.set_7_atIYd 0x80) State.reset = true := by decide

/-- RST 38 with the highest vector page and SYSCALL with the lowest; a condition that holds and one that does not. -/
theorem test_witness_CallsAndReturns :
    (match exec .rst_38 { State.reset with iir := 0xFF } with | .next t => t.pc == 0xFF70 | _ => false) = true ∧
    (match exec .rst_10 State.reset with | .next t => t.pc == 0x0020 | _ => false) = true ∧
    (match exec .syscall State.reset with | .next t => t.pc == 0x0060 | _ => false) = true ∧
    (match exec (.call_mn 0xFFFF) State.reset with | .next t => t.pc == 0xFFFF | _ => false) = true ∧
    State.reset.cond .nz = true ∧ State.reset.cond .z = false := by decide

/-- A stack pointer that wraps. -/
theorem test_witness_ReturnUndoesCall :
    { State.reset with sp := 0x0001 }.apart (0x0001 - 1) (0x0001 - 2) ∧
    runs (.call_mn 0x1234) { State.reset with sp := 0x0001 } = true ∧ runs .rst_38 State.reset = true ∧
    runs .syscall State.reset = true := ⟨.inl rfl, by decide⟩

/-- The lowest and the highest stack pointer of the premise. -/
theorem test_witness_LongCalls :
    { State.reset with sp := 0x0003 }.apart 0x0002 0x0001 ∧ { State.reset with sp := 0x0003 }.apart 0x0002 0x0000 ∧
    { State.reset with sp := 0x0003 }.apart 0x0001 0x0000 ∧ 3 ≤ (0x0003 : Word).toNat ∧ (0xE000 : Word).toNat ≤ 0xE000 ∧
    runs (.lcall_x_mn 0xFFFF 0xFF) { State.reset with sp := 0x0003 } = true ∧
    runs (.lcall_x_mn 0x0000 0x00) { State.reset with sp := 0xE000 } = true :=
  ⟨.inl rfl, .inl rfl, .inl rfl, by decide⟩

/-- BC, and with it the last byte of a block at BC = 1 and the wrap at BC = 0. -/
def counting (b c : Byte) : State := { State.reset with main := { Bank.zero with b := b, c := c } }

/-- PC after a repeating form. -/
def pcAfter (i : Instr) (s : State) : Option Word :=
  match exec i { s with pc := 2 } with
  | .next t => some t.pc
  | _ => none

theorem test_witness_BlockMovesOut :
    pcAfter .ldir (counting 0 1) = some 2 ∧ pcAfter .ldir (counting 0 0) = some 0 ∧
    pcAfter .lddsr (counting 0 2) = some 0 ∧
    runs .ldi State.reset = true ∧ runs .ldd State.reset = true ∧ runs .ldir State.reset = true ∧
    runs .lddr State.reset = true ∧ runs .ldisr State.reset = true ∧ runs .lddsr State.reset = true := by decide

theorem test_witness_BlockMovesIn :
    pcAfter .lsir (counting 0 1) = some 2 ∧ pcAfter .lsddr (counting 0 0) = some 0 ∧
    runs .lsir State.reset = true ∧ runs .lsdr State.reset = true ∧ runs .lsidr State.reset = true ∧
    runs .lsddr State.reset = true := by decide

theorem test_witness_MultiplyAccumulate :
    pcAfter .uma (counting 0 1) = some 2 ∧ pcAfter .ums (counting 0 0) = some 0 ∧
    runs .uma State.reset = true ∧ runs .ums State.reset = true := by decide

theorem test_witness_PriorityInstructions :
    runs .ipset_0 State.reset = true ∧ runs .ipset_1 State.reset = true ∧ runs .ipset_2 State.reset = true ∧
    runs .ipset_3 State.reset = true := by decide

theorem test_witness_ModeInstructions :
    underALTD.ctx.altd = true ∧ State.reset.ctx.altd = false ∧ runs .idet underALTD = true ∧
    runs .idet { State.reset with su := 0x01, platform := { Platform.reset with edmrEnabled := true } } = true := by decide

/-- A state at priority 1 with a request of priority 2 presented. -/
def requested : State :=
  { program 0 0 0 0 0 0 with ip := 0x01, eir := 0xFF, irqs := [[⟨2, .internal, 0x00⟩, ⟨3, .external, 0xF0⟩]] }

/-- A state in user mode with the System Mode Violation pending. -/
def violated : State := { program 0 0 0 0 0 0 with ip := 0x00, smv := some ⟨3, .internal, 0x80⟩, smvPending := true }

/-- The violation pending beside a presented request of its own priority. -/
def contested : State := { violated with irqs := [[⟨3, .external, 0x10⟩]] }

/-- A request above the priority, none above it, one deferred, the violation behind its equal, and the candidates with
the violation, without it pending, and without a priority for it. -/
theorem test_witness_InterruptAcceptance :
    contested.accepted contested.presented = some (⟨3, .external, 0x10⟩, false) ∧
    contested.smvPending = true ∧ contested.smv = some ⟨3, .internal, 0x80⟩ ∧
    contested.candidates contested.presented = [(⟨3, .external, 0x10⟩, false), (⟨3, .internal, 0x80⟩, true)] ∧
    { contested with smvPending := false }.candidates contested.presented = [(⟨3, .external, 0x10⟩, false)] ∧
    { contested with smv := none }.candidates contested.presented = [(⟨3, .external, 0x10⟩, false)] ∧
    requested.accepted requested.presented = some (⟨3, .external, 0xF0⟩, false) ∧
    { requested with ip := 0x03 }.accepted requested.presented = none ∧
    { requested with deferIrq := true }.accepted requested.presented = none := by decide

theorem test_witness_IpresRetUndoesEntry :
    requested.apart (requested.sp - 1) (requested.sp - 2) ∧
    (match exec .ipres (requested.takeInterrupt ⟨3, .external, 0xF0⟩ false) with
      | .next u => (match exec .ret u with | .next v => v.pc == requested.pc && v.ip == 0x01 + 0xC0 | _ => false)
      | _ => false) = true := ⟨.inl rfl, by decide⟩

theorem test_witness_InterruptEntry :
    requested.accepted requested.presented = some (⟨3, .external, 0xF0⟩, false) ∧
    after requested (fun t => t.pc == 0xFFF0 && t.ip == 0x07 && t.sp == 0xFFFE) = true ∧
    violated.accepted violated.presented = some (⟨3, .internal, 0x80⟩, true) ∧
    after violated (fun t => t.pc == 0x0080 && !t.smvPending) = true := by decide

/-! ## The platform's arguments (60_exceptions.md R633, R645; 70_reset_and_hazards.md R708) -/

/-- The rule's own example as a predicate: in user mode, a store by LD (HL),A to internal I/O at addresses from 80h. -/
def someIoWrites : UserModeRestriction := fun i s =>
  i == .ld_atHL_A && s.ctx.iop == some .internal && s.su.getLsbD 0 && decide (0x80 ≤ s.main.l.toNat)

/-- The violation that LD (HL),A requests under a platform that restricts some I/O writes. -/
def violationOf (s : State) : Option (Bool × Nat) :=
  match s.runWith someIoWrites enterInterrupt with
  | .next t => some (t.smvPending, t.io.length)
  | _ => none

/-- In user mode the write to a restricted address requests the violation and is performed; the same write lower, in
system mode, or to memory requests none. -/
theorem test_restriction_some_io_writes :
    violationOf { at0100 [(0x0100, 0xD3), (0x0101, 0x77)] 0 0x80 with su := 1 } = some (true, 1) ∧
    violationOf { at0100 [(0x0100, 0xD3), (0x0101, 0x77)] 0 0x7F with su := 1 } = some (false, 1) ∧
    violationOf (at0100 [(0x0100, 0xD3), (0x0101, 0x77)] 0 0x80) = some (false, 1) ∧
    violationOf { at0100 [(0x0100, 0x77)] 0 0x80 with su := 1 } = some (false, 0) := by decide

/-- A platform whose entry also pushes system mode on SU. -/
def entersSystemMode : EntrySequence := fun r s => { enterInterrupt r s with su := pushField s.su 0 }

theorem test_entry_of_a_platform :
    (match State.runWith (fun _ _ => false) entersSystemMode { requested with su := 0x01 } with
      | .next t => t.su == 0x04 && t.pc == 0xFFF0
      | _ => false) = true := by decide

end Sys2Proof.Tests
end

namespace Sys2Proof

open Machine

/-! ## What the decoder answers, the chip has (00_scope.md R3; 30_encoding.md R135) -/

/-- If this answers an instruction, the chip has it. Each part of the decoder is shown to be so. -/
structure AnswersExisting (v : Variant) (d : Decoded) : Prop where
  exists_of_ok : ∀ i r, d = .ok (i, r) → i.existsOn v = true

section Answers

variable {v : Variant} {t : List Byte}

theorem answersExisting_error (e : DecodeError) : AnswersExisting v (.error e) := ⟨nofun⟩

theorem answersExisting_plain {i : Instr} (h : i.existsOn v = true) : AnswersExisting v (plain i t) where
  exists_of_ok := by
    rintro _ _ ⟨⟩
    exact h

theorem answersExisting_operand1 {f : Byte → Instr} (h : ∀ a, (f a).existsOn v = true) :
    AnswersExisting v (operand1 f t) := by
  cases t with
  | nil => exact answersExisting_error _
  | cons a t => exact answersExisting_plain (h a)

theorem answersExisting_operand2 {f : Byte → Byte → Instr} (h : ∀ a b, (f a b).existsOn v = true) :
    AnswersExisting v (operand2 f t) := by
  match t with
  | [] | [_] => exact answersExisting_error _
  | a :: b :: _ => exact answersExisting_plain (h a b)

theorem answersExisting_operand3 {f : Byte → Byte → Byte → Instr} (h : ∀ a b c, (f a b c).existsOn v = true) :
    AnswersExisting v (operand3 f t) := by
  match t with
  | [] | [_] | [_, _] => exact answersExisting_error _
  | a :: b :: c :: _ => exact answersExisting_plain (h a b c)

theorem answersExisting_operandMn {f : Word → Instr} (h : ∀ mn, (f mn).existsOn v = true) :
    AnswersExisting v (operandMn f t) := answersExisting_operand2 fun _ _ => h _

theorem answersExisting_only3000A {i : Instr} (h : i.existsOn v = v.has3000A) (bs : List Byte) :
    AnswersExisting v (only3000A v i bs t) := by
  unfold only3000A
  split
  · exact answersExisting_plain (h.trans ‹_›)
  · exact answersExisting_error _

theorem answersExisting_regOr {z : Nat} {f : Reg8 → Decoded} {other : Decoded}
    (hf : ∀ r, Reg8.ofField z = some r → AnswersExisting v (f r)) (ho : AnswersExisting v other) :
    AnswersExisting v (regOr z f other) := by
  unfold regOr
  split
  · exact hf _ ‹_›
  · exact ho

/-- The (HL) forms, and the register forms, of one operation. -/
theorem answersExisting_regOr_plain {z : Nat} {f : Reg8 → Instr} {i : Instr} (hf : ∀ r, (f r).existsOn v = true)
    (hi : i.existsOn v = true) : AnswersExisting v (regOr z (fun r => plain (f r) t) (plain i t)) :=
  answersExisting_regOr (fun r _ => answersExisting_plain (hf r)) (answersExisting_plain hi)

theorem decodeCB_answersExisting (op : Byte) : AnswersExisting v (decodeCB op t) := by
  unfold decodeCB
  dsimp only
  generalize BitNo.ofField _ = b
  split
  · split
    next o _ => exact answersExisting_regOr_plain (fun r => by cases o <;> cases r <;> rfl) (by cases o <;> rfl)
    next => exact answersExisting_error _
  · exact answersExisting_regOr_plain (fun r => by cases b <;> cases r <;> rfl) (by cases b <;> rfl)
  · exact answersExisting_regOr_plain (fun r => by cases b <;> cases r <;> rfl) (by cases b <;> rfl)
  · exact answersExisting_regOr_plain (fun r => by cases b <;> cases r <;> rfl) (by cases b <;> rfl)

theorem decodeIdxCB_answersExisting (x : Idx) (d op : Byte) : AnswersExisting v (decodeIdxCB x d op t) := by
  unfold decodeIdxCB
  dsimp only
  generalize BitNo.ofField _ = b
  split
  · split
    · split
      next o _ => exact answersExisting_plain (by cases o <;> cases x <;> rfl)
      next => exact answersExisting_error _
    · exact answersExisting_plain (by cases b <;> cases x <;> rfl)
    · exact answersExisting_plain (by cases b <;> cases x <;> rfl)
    · exact answersExisting_plain (by cases b <;> cases x <;> rfl)
  · exact answersExisting_error _


theorem decodeIdxOne_answersExisting (x : Idx) (op : Byte) : AnswersExisting v (decodeIdxOne x op t) := by
  unfold decodeIdxOne
  split <;> cases x <;>
    apply_rules [answersExisting_plain, answersExisting_operandMn, answersExisting_operand1, answersExisting_operand2,
      answersExisting_error] <;> exact fun _ _ => rfl

theorem decodeIdx_answersExisting (x : Idx) (op : Byte) : AnswersExisting v (decodeIdx x op t) := by
  unfold decodeIdx
  dsimp only
  generalize AluOp.ofField _ = o
  split
  · split
    · exact decodeIdxCB_answersExisting x _ _
    · exact answersExisting_error _
  split
  · exact answersExisting_operand1 fun d => by cases o <;> cases x <;> rfl
  split
  · exact answersExisting_regOr (fun r _ => answersExisting_operand1 fun d => by cases x <;> cases r <;> rfl)
      (answersExisting_error _)
  split
  · exact answersExisting_regOr (fun r _ => answersExisting_operand1 fun d => by cases x <;> cases r <;> rfl)
      (answersExisting_error _)
  · exact decodeIdxOne_answersExisting x op

theorem decodeED_answersExisting (op : Byte) : AnswersExisting v (decodeED v op t) := by
  unfold decodeED
  dsimp only
  generalize Dd.ofField _ = q
  split <;>
    apply_rules [answersExisting_plain, answersExisting_only3000A, answersExisting_operandMn,
      answersExisting_error] <;> cases q <;> rfl

theorem decodeRow0_answersExisting (y z : Nat) : AnswersExisting v (decodeRow0 y z t) := by
  unfold decodeRow0
  dsimp only
  generalize Dd.ofField _ = p
  generalize Cc.ofField _ = cc
  split
  case h_1 =>
    split <;> apply_rules [answersExisting_plain, answersExisting_operand1]
    cases cc <;> rfl
  case h_2 =>
    split
    · exact answersExisting_operandMn fun _ => by cases p <;> rfl
    · exact answersExisting_plain (by cases p <;> rfl)
  case h_3 => split <;> apply_rules [answersExisting_plain, answersExisting_operandMn]
  case h_4 => split <;> exact answersExisting_plain (by cases p <;> rfl)
  case h_5 => exact answersExisting_regOr_plain (fun r => by cases r <;> rfl) rfl
  case h_6 => exact answersExisting_regOr_plain (fun r => by cases r <;> rfl) rfl
  case h_7 =>
    exact answersExisting_regOr (fun r _ => answersExisting_operand1 fun _ => by cases r <;> rfl)
      (answersExisting_operand1 fun _ => rfl)
  case h_8 => split <;> apply_rules [answersExisting_plain, answersExisting_operand1]

theorem Machine.Reg8.eq_of_ofField_e {n : Nat} (h : Reg8.ofField n = some .e) : n = 3 := by
  unfold Reg8.ofField at h
  split at h <;> simp_all

/-- Of the register loads only LD E,E is missing on a chip, the Rabbit 3000A. -/
theorem existsOn_ldRG {r g : Reg8} (h : r = .e → g = .e → v.has3000A = false) :
    (Form.ldRG r g).existsOn v = true := by
  cases r <;> cases g
  case e.e => exact congrArg (!·) (h rfl rfl)
  all_goals rfl

/-- Byte 5B is IDET on the Rabbit 3000A and LD E,E elsewhere. -/
theorem decodeRow1_answersExisting (y z : Nat) : AnswersExisting v (decodeRow1 v y z t) := by
  unfold decodeRow1
  split
  next h => exact answersExisting_plain h.2.2
  next h =>
    refine answersExisting_regOr (fun r hr => answersExisting_regOr (fun g hg => answersExisting_plain ?_)
      (answersExisting_plain (by cases r <;> rfl)))
      (answersExisting_regOr_plain (fun g => by cases g <;> rfl) rfl)
    refine existsOn_ldRG fun er eg => ?_
    subst er eg
    simpa [Reg8.eq_of_ofField_e hr, Reg8.eq_of_ofField_e hg] using h

theorem decodeRow3_answersExisting (y z : Nat) : AnswersExisting v (decodeRow3 v y z t) := by
  unfold decodeRow3
  dsimp only
  generalize Zz.ofField _ = q
  generalize Cond.ofField _ = f
  generalize AluOp.ofField _ = o
  split
  case h_1 => exact answersExisting_plain (by cases f <;> rfl)
  case h_2 => split <;> exact answersExisting_plain (by cases q <;> rfl)
  case h_3 => exact answersExisting_operandMn fun _ => by cases f <;> rfl
  case h_4 =>
    split
    case h_2 => split <;> apply_rules [decodeCB_answersExisting, answersExisting_error]
    all_goals apply_rules [answersExisting_plain, answersExisting_operandMn]
  case h_5 => split <;> apply_rules [answersExisting_plain, answersExisting_operand1]
  case h_6 =>
    split
    case h_1 => exact answersExisting_operandMn fun _ => rfl
    case h_2 => split <;> apply_rules [decodeIdx_answersExisting, answersExisting_error]
    case h_3 => split <;> apply_rules [decodeED_answersExisting, answersExisting_error]
    case h_4 => split <;> apply_rules [decodeIdx_answersExisting, answersExisting_error]
    case h_5 => exact answersExisting_plain (by cases q <;> rfl)
  case h_7 => exact answersExisting_operand1 fun _ => by cases o <;> rfl
  case h_8 => split <;> apply_rules [answersExisting_plain, answersExisting_operand3] <;> exact fun _ _ _ => rfl

theorem decodeFrom_answersExisting (b : Byte) : AnswersExisting v (decodeFrom v b t) := by
  unfold decodeFrom
  dsimp only
  generalize AluOp.ofField _ = o
  split
  · exact decodeRow0_answersExisting _ _
  · exact decodeRow1_answersExisting _ _
  · exact answersExisting_regOr_plain (fun r => by cases o <;> cases r <;> rfl) (by cases o <;> rfl)
  · exact decodeRow3_answersExisting _ _

end Answers

/-- The decoder answers only instructions the chip has. -/
theorem decode_existsOn {v : Variant} {bs r : List Byte} {i : Instr} (h : decode v bs = .ok (i, r)) :
    i.existsOn v = true := by
  cases bs with
  | nil => exact nomatch h
  | cons b t => exact (decodeFrom_answersExisting b).exists_of_ok i r h

end Sys2Proof

namespace Sys2Proof.Machine

/-! ## What every instruction keeps (00_scope.md R2, R3, R7; 10_state.md R45) -/

/-- The parameters a state holds: the chip, the platform's choices, the schedule of interrupt requests. -/
structure Params where
  variant : Variant
  translation : Option Nat
  smv : Option IntRequest
  userRestriction : Option Nat
  ports : List (Byte × PlatReg)
  irqs : List (List IntRequest)

/-- The parameters of a state. -/
def State.params (s : State) : Params :=
  ⟨s.variant, s.translation, s.smv, s.userRestriction, s.platform.ports, s.irqs⟩

/-- The parameters, SU and the pending violation: what only the Rabbit 3000A's additions change. -/
def State.kept (s : State) : Params × Byte × Bool := (s.params, s.su, s.smvPending)

section Kept

variable (s : State)

theorem Platform.write_ports (p : Platform) (a v : Byte) : (p.write a v).ports = p.ports := by
  unfold Platform.write
  split
  next r _ => cases r <;> rfl
  next => rfl

theorem State.dataRead8_kept (a : Word) : (s.dataRead8 a).2.kept = s.kept := by
  rw [s.dataRead8_rest a]
  rfl

theorem State.dataRead16_kept (a : Word) : (s.dataRead16 a).2.kept = s.kept := by
  rw [s.dataRead16_rest a]
  rfl

theorem State.dataWrite8_ports (a : Word) (v : Byte) : (s.dataWrite8 a v).platform.ports = s.platform.ports := by
  unfold State.dataWrite8
  split
  · rfl
  · unfold State.ioWrite8
    split
    · exact Platform.write_ports _ _ _
    · split <;> rfl

theorem State.dataWrite8_kept (a : Word) (v : Byte) : (s.dataWrite8 a v).kept = s.kept := by
  rw [s.dataWrite8_rest a v]
  simp only [State.kept, State.params, s.dataWrite8_ports a v]

theorem State.dataWrite16_kept (a v : Word) : (s.dataWrite16 a v).kept = s.kept :=
  ((s.dataWrite8 a _).dataWrite8_kept _ _).trans (s.dataWrite8_kept a _)

theorem State.push8_kept (v : Byte) : (s.push8 v).kept = s.kept := by simp [State.kept, State.params]

theorem State.push16_kept (v : Word) : (s.push16 v).kept = s.kept := by simp [State.kept, State.params]

theorem State.callTo_kept (v : Word) : (s.callTo v).kept = s.kept := by
  simp [State.kept, State.params, State.callTo]

theorem State.blockUpdate_kept (dDE dHL : Word) : (s.blockUpdate dDE dHL).kept = s.kept := by
  simp [State.kept, State.params, State.blockUpdate]

theorem State.ldIter_kept (dDE dHL : Word) : (s.ldIter dDE dHL).kept = s.kept :=
  (s.moveToIo.blockUpdate_kept dDE dHL).trans (s.dataWrite8_kept _ _)

theorem State.moveFromIo_kept : s.moveFromIo.kept = s.kept := by
  rw [← s.dataRead8_kept s.hl]
  simp [State.kept, State.params, State.moveFromIo]

theorem State.lsIter_kept (dDE dHL : Word) : (s.lsIter dDE dHL).kept = s.kept :=
  (s.moveFromIo.blockUpdate_kept dDE dHL).trans s.moveFromIo_kept

theorem State.again_kept : s.again.kept = s.kept := by
  rw [s.again_rest]
  rfl

theorem aluA_kept (op : AluOp) (x : Byte) : (aluA op x s).kept = s.kept := by cases op <;> rfl

end Kept

/-- From `s` to `t` the parameters are kept, and without the Rabbit 3000A's additions SU and the pending violation. -/
structure KeepsParams (s t : State) : Prop where
  params : t.params = s.params
  kept : s.variant.has3000A = false → t.kept = s.kept

theorem KeepsParams.of_kept {s t : State} (h : t.kept = s.kept) : KeepsParams s t where
  params := congrArg Prod.fst h
  kept _ := h

theorem KeepsParams.trans {s t u : State} (h : KeepsParams s t) (h' : KeepsParams t u) : KeepsParams s u where
  params := h'.params.trans h.params
  kept hv := by
    have e : t.variant = s.variant := congrArg Params.variant h.params
    exact (h'.kept (e ▸ hv)).trans (h.kept hv)

/-- If this answers a next state, that keeps the parameters of `s`. -/
def AnswersKeeping (s : State) (e : Exec) : Prop := ∀ t, e = .next t → KeepsParams s t

section Answers

variable {s : State}

theorem answersKeeping_next {t : State} (h : t.kept = s.kept) : AnswersKeeping s (.next t) := by
  rintro _ ⟨⟩
  exact .of_kept h

theorem answersKeeping_next_of_3000A {t : State} (hv : s.variant.has3000A = true) (h : t.params = s.params) :
    AnswersKeeping s (.next t) := by
  rintro _ ⟨⟩
  exact ⟨h, fun hn => absurd (hv.symm.trans hn) (by decide)⟩

theorem answersKeeping_refused (r : Refusal) : AnswersKeeping s (.refused r) := by
  rintro _ ⟨⟩

theorem dstDd_answersKeeping {t : State} (h : t.kept = s.kept) (r : Dd) (v : Word) :
    AnswersKeeping s (t.dstDd r v) := by
  cases r with
  | bc | de | hl => exact answersKeeping_next h
  | sp =>
    unfold State.dstDd
    dsimp only
    split
    · exact answersKeeping_refused _
    · exact answersKeeping_next h

theorem ioMark_answersKeeping (sp : IoSpace) : AnswersKeeping s (ioMark sp s) := by
  unfold ioMark
  split
  · exact answersKeeping_next rfl
  · exact answersKeeping_refused _

theorem execAltd_answersKeeping : AnswersKeeping s (execAltd s) := by
  unfold execAltd
  split
  · exact answersKeeping_refused _
  · exact answersKeeping_next rfl

theorem execEx_DE_HL_answersKeeping : AnswersKeeping s (execEx_DE_HL s) := by
  unfold execEx_DE_HL
  split <;> exact answersKeeping_next rfl

theorem execEx_DE'_HL_answersKeeping : AnswersKeeping s (execEx_DE'_HL s) := by
  unfold execEx_DE'_HL
  split <;> exact answersKeeping_next rfl

/-- IDET, an addition of the Rabbit 3000A, may request the violation. -/
theorem execIdet_answersKeeping (hv : s.variant.has3000A = true) : AnswersKeeping s (execIdet s) := by
  unfold execIdet
  split <;> exact answersKeeping_next_of_3000A hv rfl

/-- Every instruction keeps the parameters; those that change SU or request the violation are the Rabbit 3000A's. -/
theorem exec_answersKeeping {i : Instr} (hi : i.existsOn s.variant = true) : AnswersKeeping s (exec i s) := by
  cases i using Instr.form_cases
  all_goals try simp only [exec_ldRG, exec_ldRN, exec_ldRAtHL, exec_ldRAtIdx, exec_ldAtHLR, exec_ldAtIdxR,
    exec_ldAtIdxN, exec_ldDdMn, exec_ldIdxMn, exec_ldDdAtMn, exec_ldIdxAtMn, exec_ldAtMnSs, exec_ldAtMnIdx,
    exec_ldHLAtIdx, exec_ldAtIdxHL,
    exec_ldIdxAtSP, exec_ldAtSPIdx, exec_ldHLIdx, exec_ldIdxHL, exec_ldSPIdx, exec_ldAltBC, exec_ldAltDE,
    exec_ldpAtIdxHL, exec_ldpAtMnIdx, exec_ldpHLAtIdx, exec_ldpIdxAtMn, exec_pushZz, exec_pushIdx, exec_popZz,
    exec_popIdx, exec_exAtSPIdx, exec_aluR, exec_aluN, exec_aluAtHL, exec_aluAtIdx, exec_incR, exec_incAtIdx,
    exec_decR, exec_decAtIdx, exec_addHLSs, exec_addIdx, exec_adcHLSs, exec_sbcHLSs, exec_andIdxDE, exec_orIdxDE,
    exec_boolIdx, exec_incSs, exec_incIdx, exec_decSs, exec_decIdx, exec_rotR, exec_rotAtHL, exec_rotAtIdx,
    exec_rrIdx, exec_bitR, exec_bitAtHL, exec_bitAtIdx, exec_resR, exec_resAtHL, exec_resAtIdx, exec_setR,
    exec_setAtHL, exec_setAtIdx, exec_jpF, exec_jpIdx, exec_jrCc, exec_retF, exec_rst]
  case pop_SU | setusr | sures => exact answersKeeping_next_of_3000A hi rfl
  case idet => exact execIdet_answersKeeping hi
  case altd => exact execAltd_answersKeeping
  case ioi | ioe => exact ioMark_answersKeeping _
  case ex_DE_HL => exact execEx_DE_HL_answersKeeping
  case ex_DE'_HL => exact execEx_DE'_HL_answersKeeping
  case ldDdMn | incSs | decSs => exact dstDd_answersKeeping rfl _ _
  case ldDdAtMn => exact dstDd_answersKeeping (s.dataRead16_kept _) _ _
  case jpF | jrCc | retF | djnz_e => exact answersKeeping_next (by split <;> rfl)
  case aluR | aluN => exact answersKeeping_next (aluA_kept s _ _)
  case aluAtHL | aluAtIdx => exact answersKeeping_next ((aluA_kept _ _ _).trans (s.dataRead8_kept _))
  case ldRAtHL | ldRAtIdx | ld_A_atBC | ld_A_atDE | ld_A_atMn | bitAtHL | bitAtIdx =>
    exact answersKeeping_next (s.dataRead8_kept _)
  case ldIdxAtMn | ldHLAtIdx | ld_HL_atMn | ld_HL_atHLd => exact answersKeeping_next (s.dataRead16_kept _)
  case ldAtHLR | ldAtIdxR | ldAtIdxN | ld_atBC_A | ld_atDE_A | ld_atMn_A | ld_atHL_n =>
    exact answersKeeping_next (s.dataWrite8_kept _ _)
  case ldAtMnSs | ldAtMnIdx | ldAtIdxHL | ld_atMn_HL | ld_atHLd_HL =>
    exact answersKeeping_next (s.dataWrite16_kept _ _)
  case incAtIdx | decAtIdx | inc_atHL | dec_atHL | rotAtHL | rotAtIdx | resAtHL | resAtIdx | setAtHL | setAtIdx =>
    exact answersKeeping_next ((State.dataWrite8_kept _ _ _).trans (s.dataRead8_kept _))
  case ldi | ldd => exact answersKeeping_next (s.ldIter_kept _ _)
  case ldir | lddr | ldisr | lddsr =>
    exact answersKeeping_next ((State.again_kept _).trans (s.ldIter_kept _ _))
  case lsir | lsdr | lsidr | lsddr =>
    exact answersKeeping_next ((State.again_kept _).trans (s.lsIter_kept _ _))
  case uma | ums => exact answersKeeping_next (State.again_kept _)
  case pushZz | pushIdx => exact answersKeeping_next (s.push16_kept _)
  case rst | call_mn | syscall => exact answersKeeping_next (s.callTo_kept _)
  case lcall_x_mn => exact answersKeeping_next ((State.push16_kept (s.push8 s.xpc) s.pc).trans (s.push8_kept s.xpc))
  all_goals exact answersKeeping_next rfl

end Answers

/-! ## What every step keeps -/

theorem runInstr_answersKeeping {s : State} {i : Instr} (hi : i.existsOn s.variant = true) (f : UserModeRestriction) :
    AnswersKeeping s (runInstr f i s) := by
  intro u hu
  unfold runInstr at hu
  split at hu
  · cases hu
  set m := (s.advance i.size).markRestricted (s.isRestricted f i) with hm
  have marked : KeepsParams s m := by
    refine ⟨rfl, fun hv => ?_⟩
    simp [hm, State.kept, State.params, State.isRestricted, hv]
  split at hu
  next t ht =>
    obtain rfl := (Host.Outcome.next.inj hu).symm
    exact marked.trans ((exec_answersKeeping (s := m) hi t ht).trans (.of_kept rfl))
  all_goals cases hu

/-- ALTD, IOI or IOE, with PC moved past it. -/
theorem exec_advance_answersKeeping {s : State} {i : Instr} (hi : i.existsOn s.variant = true) (n : Nat) :
    AnswersKeeping s (exec i (s.advance n)) := fun t ht =>
  have moved : KeepsParams s (s.advance n) := .of_kept rfl
  moved.trans (exec_answersKeeping (s := s.advance n) hi t ht)

/-- ALTD, IOI, IOE and the instruction behind them, by induction on how many of them may still come. -/
theorem runUnit_answersKeeping (f : UserModeRestriction) (n : Nat) (s : State) : AnswersKeeping s (runUnit f n s) := by
  induction n generalizing s with
  | zero =>
    unfold runUnit
    split
    · exact answersKeeping_refused _
    next i r hd =>
      have hi := decode_existsOn hd
      dsimp only
      split
      · exact exec_advance_answersKeeping hi i.size
      · exact runInstr_answersKeeping hi f
  | succ n ih =>
    unfold runUnit
    split
    · exact answersKeeping_refused _
    next i r hd =>
      have hi := decode_existsOn hd
      dsimp only
      split
      · split
        next t ht =>
          have first : KeepsParams s t := exec_advance_answersKeeping hi i.size t ht
          exact fun u hu => first.trans (ih t u hu)
        next => exact fun _ h => nomatch h
        next => exact answersKeeping_refused _
      · exact runInstr_answersKeeping hi f

/-- A step enters an interrupt or runs an instruction, both with the schedule's first entry gone. -/
theorem step_takesInterrupt_or_keepsParams {s t : State} (h : step s = .next t) :
    (∃ r b, t = s.nextBoundary.takeInterrupt r b) ∨ KeepsParams s.nextBoundary.beginInstr t := by
  unfold step State.run State.runWith at h
  split at h
  next r _ => exact .inl ⟨r.1, r.2, (Host.Outcome.next.inj h).symm⟩
  next => exact .inr (runUnit_answersKeeping _ _ _ t h)

theorem Variant.has3000A_of_ne {v : Variant} (h : v ≠ .r3000a) : v.has3000A = false := by
  cases v with
  | r2000 | r3000 => rfl
  | r3000a => exact absurd rfl h

/-- Settles O11: an interrupt entry, or an instruction with the ALTD, IOI and IOE bytes before it. -/
theorem stepKeepsParameters : Obligations.StepKeepsParameters := by
  unfold Obligations.StepKeepsParameters
  intro s t h
  obtain ⟨r, b, rfl⟩ | ⟨params, kept⟩ := step_takesInterrupt_or_keepsParams h
  · simp +contextual
  · injection params with hv ht hs hu hp hi
    refine ⟨hv, ht, hs, hu, hp, hi, fun hne => ?_⟩
    have e := kept (Variant.has3000A_of_ne hne)
    have su : t.su = s.su := congrArg (·.2.1) e
    have smv : t.smvPending = s.smvPending := congrArg (·.2.2) e
    exact ⟨su, smv.trans⟩


/-! ## Conditions (00_scope.md R15) -/

/-- Settles O17: four conditions are a flag of main F, the other four its negation. -/
theorem conditionTable : Obligations.ConditionTable := by
  unfold Obligations.ConditionTable
  refine ⟨fun s => ⟨?nz, Iff.rfl, ?nc, Iff.rfl, ?lz, Iff.rfl, ?p, Iff.rfl⟩, rfl, rfl, rfl⟩ <;>
    exact iff_of_eq (Bool.not_eq_true' _)

/-! ## Translation (20_memory.md R95, R96) -/

/-- The default adds 4096 times the segment register, modulo 2^20. -/
theorem segmentTranslate_toNat (v : MmuView) (a : Word) :
    (segmentTranslate v a).toNat = (a.toNat + 4096 * (v.segment a).toNat) % 2 ^ 20 := by
  have ha := a.isLt
  have hg := (v.segment a).isLt
  rw [segmentTranslate, BitVec.toNat_add, BitVec.toNat_shiftLeft, BitVec.toNat_setWidth, BitVec.toNat_setWidth,
    Nat.shiftLeft_eq]
  omega

section Segment

variable (v : MmuView) {a : Word}

theorem MmuView.segment_of_xpc (h : 0xE000 ≤ a.toNat) : v.segment a = v.xpc := by
  unfold MmuView.segment
  exact if_pos (by omega)

theorem MmuView.segment_of_stackseg (h : a.toNat < 0xE000) (hs : v.platform.segsize.toNat / 16 * 4096 ≤ a.toNat) :
    v.segment a = v.platform.stackseg := by
  unfold MmuView.segment
  rw [if_neg (by omega), if_pos (by omega)]

theorem MmuView.segment_of_dataseg (h : a.toNat < 0xE000) (hs : a.toNat < v.platform.segsize.toNat / 16 * 4096)
    (hd : v.platform.segsize.toNat % 16 * 4096 ≤ a.toNat) : v.segment a = v.platform.dataseg := by
  unfold MmuView.segment
  rw [if_neg (by omega), if_neg (by omega), if_pos (by omega)]

theorem MmuView.segment_of_root (h : a.toNat < 0xE000) (hs : a.toNat < v.platform.segsize.toNat / 16 * 4096)
    (hd : a.toNat < v.platform.segsize.toNat % 16 * 4096) : v.segment a = 0 := by
  unfold MmuView.segment
  rw [if_neg (by omega), if_neg (by omega), if_neg (by omega)]

/-- Below E000 the segment register is not XPC. -/
theorem MmuView.segment_xpc_blind (h : a.toNat < 0xE000) (x : Byte) :
    MmuView.segment { v with xpc := x } a = v.segment a := by
  have hn : ¬ 0xE ≤ a.toNat / 4096 := by omega
  simp only [MmuView.segment, if_neg hn]

/-- Below E000 no mapping, the default or a platform's, sees XPC. -/
theorem translateOf_xpc_blind (k : Option Nat) (h : a.toNat < 0xE000) (x : Byte) :
    translateOf k { v with xpc := x } a = translateOf k v a := by
  cases k with
  | none => simp only [translateOf, segmentTranslate, v.segment_xpc_blind h]
  | some k => simp only [translateOf, platformTranslate, if_pos h]

end Segment

/-- The upper field of a byte as a number. -/
theorem highNibble_toNat (b : Byte) : (b >>> 4).toNat = b.toNat / 16 := by
  rw [BitVec.toNat_ushiftRight, Nat.shiftRight_eq_div_pow]

/-- The lower field of a byte as a number. -/
theorem lowNibble_toNat (b : Byte) : (b &&& 0x0F).toNat = b.toNat % 16 := by
  have h : (0x0F : Byte).toNat = 2 ^ 4 - 1 := rfl
  rw [BitVec.toNat_and, h, Nat.and_two_pow_sub_one_eq_mod]

/-- Settles O20: the default adds the register that `MmuView.segment` names. -/
theorem translateAddsSegment : Obligations.TranslateAddsSegment := by
  unfold Obligations.TranslateAddsSegment
  intro s a
  let v : MmuView := ⟨s.xpc, s.su, s.platform, s.io⟩
  refine ⟨fun hd => ⟨v.segment a, ?_, v.segment_of_xpc, ?_, ?_, ?_⟩, fun h x => ?_, fun hd _ => s.translate_ne hd⟩
  · rw [s.translate_default hd, segmentTranslate_toNat]
  · rw [highNibble_toNat]
    exact v.segment_of_stackseg
  · rw [highNibble_toNat, lowNibble_toNat]
    exact v.segment_of_dataseg
  · rw [highNibble_toNat, lowNibble_toNat]
    exact v.segment_of_root
  · exact translateOf_xpc_blind v s.translation h x

/-! ## The step and `exec` (00_scope.md R22) -/

/-- Where the Rabbit 2000 defect does not apply, running an instruction is `exec` of it with what a step adds. -/
theorem runInstr_eq_stepAround {s : State} {i : Instr} (h : s.hitsIoBug i = false) (restricted : UserModeRestriction) :
    runInstr restricted i s = stepAround restricted i s := by
  unfold runInstr
  rw [h]
  rfl

/-- The state in which a step begins its instruction is the one behind no ALTD, IOI or IOE. -/
theorem State.beginInstr_nextBoundary (s : State) :
    s.nextBoundary.beginInstr = s.behind ⟨false, none, s.pc⟩ 0 := by
  unfold State.behind
  rw [BitVec.add_zero]
  rfl

/-- Without an accepted interrupt a step runs the instruction at PC with the ALTD, IOI and IOE before it. -/
theorem State.runWith_of_noInterrupt {s : State} (h : s.noInterrupt) (restricted : UserModeRestriction)
    (enter : EntrySequence) :
    s.runWith restricted enter = runUnit restricted 2 (s.behind ⟨false, none, s.pc⟩ 0) := by
  unfold State.runWith
  rw [show s.accepted s.presented = none from h, s.beginInstr_nextBoundary]

/-- The schedule, the deferral and the context do not change what is fetched at PC. -/
theorem State.behind_zero_fetchBytes (s : State) (c : PrefixCtx) : (s.behind c 0).fetchBytes = s.fetchBytes := by
  unfold State.fetchBytes
  rw [show (s.behind c 0).pc = s.pc from BitVec.add_zero _]
  rfl

/-- An instruction other than ALTD, IOI and IOE is run at once. -/
theorem runUnit_of_isPrefix_false {s : State} {i : Instr} {rest : List Byte}
    (hd : decode s.variant s.fetchBytes = .ok (i, rest)) (hp : i.isPrefix = false) (restricted : UserModeRestriction)
    (n : Nat) : runUnit restricted n s = runInstr restricted i s := by
  unfold runUnit
  simp only [hd, hp, Bool.false_eq_true, if_false]

/-- Settles O5: without an interrupt, and without ALTD, IOI and IOE, a step is `runInstr` of what PC names. -/
theorem stepRunsDecodedInstruction : Obligations.StepRunsDecodedInstruction := by
  unfold Obligations.StepRunsDecodedInstruction
  intro restricted enter s i rest hn hd hp hb
  have run (f : UserModeRestriction) (e : EntrySequence) :
      s.runWith f e = stepAround f i (s.behind ⟨false, none, s.pc⟩ 0) := by
    rw [State.runWith_of_noInterrupt hn, runUnit_of_isPrefix_false (i := i) (rest := rest) _ hp,
      runInstr_eq_stepAround hb]
    rw [State.behind_zero_fetchBytes]
    exact hd
  exact ⟨run restricted enter, run s.restriction enterInterrupt, fun h j t => by rw [State.restriction_none h]⟩

end Sys2Proof.Machine

namespace Sys2Proof.Machine

/-! ## The byte F (10_state.md R36) -/

section FlagsByte

variable (f : Flags)

/-- The byte F is its fields in order; here its width is their sum, which `BitVec.getLsbD_append` needs. -/
theorem Flags.toByte_getLsbD (k : Nat) : f.toByte.getLsbD k =
    (BitVec.ofBool f.s ++ BitVec.ofBool f.z ++ f.other.extractLsb' 1 3 ++ BitVec.ofBool f.lv
      ++ f.other.extractLsb' 0 1 ++ BitVec.ofBool f.c).getLsbD k := rfl

theorem Flags.toByte_flagBits : f.toByte.getLsbD 7 = f.s ∧ f.toByte.getLsbD 6 = f.z ∧ f.toByte.getLsbD 2 = f.lv ∧
    f.toByte.getLsbD 0 = f.c := by
  simp only [f.toByte_getLsbD, BitVec.getLsbD_append]
  simp

/-- Bits 5, 4, 3 and 1 of the byte F. -/
theorem Flags.toByte_otherBits : f.toByte.extractLsb' 3 3 ++ f.toByte.extractLsb' 1 1 = f.other := by
  apply BitVec.eq_of_getLsbD_eq
  intro k hk
  simp only [BitVec.getLsbD_append, BitVec.getLsbD_extractLsb', f.toByte_getLsbD]
  interval_cases k <;> simp

theorem Flags.ofByte_toByte : Flags.ofByte f.toByte = f := by
  obtain ⟨hs, hz, hlv, hc⟩ := f.toByte_flagBits
  rw [Flags.ofByte, hs, hz, hlv, hc, f.toByte_otherBits]

theorem Flags.toByte_ofByte (b : Byte) : (Flags.ofByte b).toByte = b := by
  apply BitVec.eq_of_getLsbD_eq
  intro k hk
  simp only [Flags.toByte_getLsbD, Flags.ofByte, BitVec.getLsbD_append, BitVec.getLsbD_extractLsb']
  interval_cases k <;> simp

end FlagsByte

/-- Settles O18: the places of the four flags, and the two round trips bit by bit. -/
theorem flagsByteLayout : Obligations.FlagsByteLayout := by
  unfold Obligations.FlagsByteLayout
  refine ⟨fun f => ?_, Flags.toByte_ofByte⟩
  obtain ⟨hs, hz, hlv, hc⟩ := f.toByte_flagBits
  exact ⟨hs, hz, hlv, hc, f.ofByte_toByte⟩

/-! ## What an instruction leaves outside its destination (10_state.md R33, R43-R46; 00_scope.md R12) -/

/-- The registers outside the banks that R43 to R46 name. -/
structure SpecialRegs where
  ip : Byte
  su : Byte
  xpc : Byte
  iir : Byte
  eir : Byte

/-- The special registers of a state. -/
def State.special (s : State) : SpecialRegs := ⟨s.ip, s.su, s.xpc, s.iir, s.eir⟩

/-- The special registers, whether ALTD is in force, and both banks: what a data access leaves alone. -/
def State.core (s : State) : SpecialRegs × Bool × Bank × Bank := (s.special, s.ctx.altd, s.main, s.alt)

/-- From `s` to `t` the special registers, ALTD and the bank that destinations do not go to are kept. -/
structure Confined (s t : State) : Prop where
  special : t.special = s.special
  altd : t.ctx.altd = s.ctx.altd
  other : t.otherBank s.ctx.altd = s.otherBank s.ctx.altd

section Confined

variable {s t : State}

theorem Confined.of_core (h : t.core = s.core) : Confined s t := by
  obtain ⟨special, altd, main, alt⟩ := by simpa only [State.core, Prod.mk.injEq] using h
  exact ⟨special, altd, by rw [State.otherBank, State.otherBank, main, alt]⟩

theorem Confined.trans {u : State} (h : Confined s t) (h' : Confined t u) : Confined s u where
  special := h'.special.trans h.special
  altd := h'.altd.trans h.altd
  other := (h.altd ▸ h'.other).trans h.other

theorem Confined.congr_core {u : State} (h : Confined s t) (h' : u.core = t.core) : Confined s u :=
  h.trans (.of_core h')

theorem State.updDest_confined (s : State) (f : Bank → Bank) : Confined s (s.updDest f) where
  special := rfl
  altd := rfl
  other := by cases h : s.ctx.altd <;> simp [State.otherBank, h]

/-- A change of the destination bank, a register write among them. -/
theorem Confined.updDest {f : Bank → Bank} (h : Confined s t) : Confined s (t.updDest f) :=
  h.trans (t.updDest_confined f)

theorem Confined.setFlags {w : FlagUpd} (h : Confined s t) : Confined s (t.setFlags w) :=
  (h.updDest (f := fun k => k.updFlags w (Config.flagBits t.draws))).congr_core rfl

end Confined

section Core

variable (s : State)

theorem State.dataRead8_core (a : Word) : (s.dataRead8 a).2.core = s.core := by
  rw [s.dataRead8_rest a]
  rfl

theorem State.dataRead16_core (a : Word) : (s.dataRead16 a).2.core = s.core := by
  rw [s.dataRead16_rest a]
  rfl

theorem State.dataWrite8_core (a : Word) (v : Byte) : (s.dataWrite8 a v).core = s.core := by
  rw [s.dataWrite8_rest a v]
  rfl

theorem State.dataWrite16_core (a v : Word) : (s.dataWrite16 a v).core = s.core := by
  rw [s.dataWrite16_rest a v]
  rfl

/-- A byte read, changed and stored. -/
theorem State.dataWrite8_dataRead8_core (a : Word) (v : Byte) : ((s.dataRead8 a).2.dataWrite8 a v).core = s.core :=
  ((s.dataRead8 a).2.dataWrite8_core a v).trans (s.dataRead8_core a)

theorem aluA_confined (op : AluOp) (x : Byte) : Confined s (aluA op x s) := by
  have flags (w : FlagUpd) : Confined s (s.setFlags w) := (Confined.of_core rfl).setFlags
  have regFlags (v : Byte) (w : FlagUpd) : Confined s ((s.dst8 .a v).setFlags w) := (s.updDest_confined _).setFlags
  cases op with
  | cp => exact flags _
  | add | adc | sub | sbc | and | xor | or => exact regFlags _ _

theorem bitMem_confined (b : BitNo) (a : Word) : Confined s (bitMem b a s) :=
  (Confined.of_core (s.dataRead8_core a)).setFlags

theorem ldA_XPC_confined : Confined s (s.dst8 .a s.xpc).privileged :=
  (s.updDest_confined fun k => k.set .a s.xpc).congr_core rfl

end Core

/-- Of the special registers and the banks, all but the main bank. -/
def State.outsideMain (s : State) : SpecialRegs × Bank := (s.special, s.alt)

section OutsideMain

variable (s : State)

theorem State.outsideMain_of_core {s t : State} (h : t.core = s.core) : t.outsideMain = s.outsideMain := by
  obtain ⟨special, -, -, alt⟩ := by simpa only [State.core, Prod.mk.injEq] using h
  exact congrArg₂ Prod.mk special alt

theorem State.ldIter_outsideMain (dDE dHL : Word) : (s.ldIter dDE dHL).outsideMain = s.outsideMain := by
  show s.moveToIo.outsideMain = s.outsideMain
  exact State.outsideMain_of_core (s.dataWrite8_core _ _)

theorem State.lsIter_outsideMain (dDE dHL : Word) : (s.lsIter dDE dHL).outsideMain = s.outsideMain := by
  show (s.dataRead8 s.hl).2.outsideMain = s.outsideMain
  exact State.outsideMain_of_core (s.dataRead8_core _)

theorem State.again_outsideMain : s.again.outsideMain = s.outsideMain := by
  rw [s.again_rest]
  rfl

end OutsideMain

/-- Among IP, SU, XPC, IIR and EIR the instruction changes only what it is listed to write. -/
structure SpecialKept (i : Instr) (s t : State) : Prop where
  ip : i.writesIP = false → t.ip = s.ip
  su : i.writesSU = false → t.su = s.su
  xpc : i.writesXPC = false → t.xpc = s.xpc
  iir : i ≠ .ld_IIR_A → t.iir = s.iir
  eir : i ≠ .ld_EIR_A → t.eir = s.eir

/-- The instruction changes the bank that ALTD does not select only if it is listed to. -/
structure BanksKept (i : Instr) (s t : State) : Prop where
  alt : s.ctx.altd = false → i.writesAlt = false → t.alt = s.alt
  main : s.ctx.altd = true → i.writesMain = false → t.main = s.main

/-- If this answer of `i` is a next state, that keeps the special registers and the banks as the lists say. -/
def AnswersApart (i : Instr) (s : State) (e : Exec) : Prop := ∀ t, e = .next t → SpecialKept i s t ∧ BanksKept i s t

section Answers

variable {i : Instr} {s : State}

theorem SpecialKept.of_special {t : State} (h : t.special = s.special) : SpecialKept i s t := by
  injection h with ip su xpc iir eir
  exact ⟨fun _ => ip, fun _ => su, fun _ => xpc, fun _ => iir, fun _ => eir⟩

theorem BanksKept.of_eq {t : State} (hm : t.main = s.main) (ha : t.alt = s.alt) : BanksKept i s t :=
  ⟨fun _ _ => ha, fun _ _ => hm⟩

theorem BanksKept.of_otherBank {t : State} (h : t.otherBank s.ctx.altd = s.otherBank s.ctx.altd) :
    BanksKept i s t where
  alt ha _ := by simpa [State.otherBank, ha] using h
  main ha _ := by simpa [State.otherBank, ha] using h

theorem answersApart_next {t : State} (hs : SpecialKept i s t) (hb : BanksKept i s t) :
    AnswersApart i s (.next t) := by
  rintro _ ⟨⟩
  exact ⟨hs, hb⟩

theorem answersApart_refused (r : Refusal) : AnswersApart i s (.refused r) := by
  rintro _ ⟨⟩

/-- An instruction on no list. -/
theorem answersApart_of_confined {t : State} (h : Confined s t) : AnswersApart i s (.next t) :=
  answersApart_next (.of_special h.special) (.of_otherBank h.other)

theorem answersApart_of_core {t : State} (h : t.core = s.core) : AnswersApart i s (.next t) :=
  answersApart_of_confined (.of_core h)

/-- An instruction that changes the main bank whatever ALTD says. -/
theorem answersApart_of_outsideMain {t : State} (hi : i.writesMain = true) (h : t.outsideMain = s.outsideMain) :
    AnswersApart i s (.next t) := by
  obtain ⟨special, alt⟩ := Prod.mk.inj h
  exact answersApart_next (.of_special special) ⟨fun _ _ => alt, fun _ hn => (nomatch hi.symm.trans hn)⟩

/-- An instruction that changes the alternate bank without ALTD, and no main register under it. -/
theorem answersApart_of_writesAlt {t : State} (hi : i.writesAlt = true) (hs : t.special = s.special)
    (hm : s.ctx.altd = true → i.writesMain = false → t.main = s.main) : AnswersApart i s (.next t) :=
  answersApart_next (.of_special hs) ⟨fun _ hn => (nomatch hi.symm.trans hn), hm⟩

theorem dstDd_answersApart {t : State} (h : t.core = s.core) (r : Dd) (v : Word) : AnswersApart i s (t.dstDd r v) := by
  cases r with
  | bc | de | hl => exact answersApart_of_confined (.updDest (.of_core h))
  | sp =>
    unfold State.dstDd
    dsimp only
    split
    · exact answersApart_refused _
    · exact answersApart_of_core h

theorem ioMark_answersApart (sp : IoSpace) : AnswersApart i s (ioMark sp s) := by
  unfold ioMark
  split
  · exact answersApart_of_core rfl
  · exact answersApart_refused _

theorem execAltd_answersApart : AnswersApart i s (execAltd s) := by
  unfold execAltd
  split
  · exact answersApart_refused _
  · exact answersApart_next (.of_special rfl) (.of_eq rfl rfl)

theorem execIdet_answersApart : AnswersApart i s (execIdet s) := by
  unfold execIdet
  split
  · exact answersApart_of_confined (s.updDest_confined _)
  · exact answersApart_of_core rfl

theorem execDjnz_e_answersApart (k : Byte) : AnswersApart i s (execDjnz_e k s) := by
  have down : Confined s (s.dst8 .b (s.main.b - 1)) := s.updDest_confined _
  unfold execDjnz_e
  dsimp only
  split
  · exact answersApart_of_confined down
  · exact answersApart_of_confined (down.congr_core rfl)

/-- EX DE,HL: under ALTD main DE and HL', else both main. -/
theorem execEx_DE_HL_answersApart : AnswersApart .ex_DE_HL s (execEx_DE_HL s) := by
  unfold execEx_DE_HL
  split
  next ha => exact answersApart_next (.of_special rfl) ⟨by simp [ha], nofun⟩
  next => exact answersApart_of_outsideMain rfl rfl

/-- EX DE',HL: under ALTD both alternate, else DE' and main HL. -/
theorem execEx_DE'_HL_answersApart : AnswersApart .ex_DE'_HL s (execEx_DE'_HL s) := by
  unfold execEx_DE'_HL
  split
  next => exact answersApart_of_writesAlt rfl rfl fun _ _ => rfl
  next ha => exact answersApart_of_writesAlt rfl rfl fun h => absurd h ha

theorem ldAlt_answersApart (hi : i.writesAlt = true) (p : Pair) (v : Word) : AnswersApart i s (ldAlt p v s) :=
  answersApart_of_writesAlt hi rfl fun _ _ => rfl

theorem writesAlt_ldAltBC (p : Pair) : (Form.ldAltBC p).writesAlt = true := by cases p <;> rfl

theorem writesAlt_ldAltDE (p : Pair) : (Form.ldAltDE p).writesAlt = true := by cases p <;> rfl

theorem writesMain_ldpHLAtIdx (x : Idx) : (Form.ldpHLAtIdx x).writesMain = true := by cases x <;> rfl

/-- Every instruction: the writers of special registers first, then those that cross the banks, then those that only
write where ALTD says. -/
theorem exec_answersApart (i : Instr) (s : State) : AnswersApart i s (exec i s) := by
  cases i using Instr.form_cases
  all_goals try simp only [exec_ldRG, exec_ldRN, exec_ldRAtHL, exec_ldRAtIdx, exec_ldAtHLR, exec_ldAtIdxR,
    exec_ldAtIdxN, exec_ldDdMn, exec_ldIdxMn, exec_ldDdAtMn, exec_ldIdxAtMn, exec_ldAtMnSs, exec_ldAtMnIdx,
    exec_ldHLAtIdx, exec_ldAtIdxHL, exec_ldIdxAtSP, exec_ldAtSPIdx, exec_ldHLIdx, exec_ldIdxHL, exec_ldSPIdx,
    exec_ldAltBC, exec_ldAltDE, exec_ldpAtIdxHL, exec_ldpAtMnIdx, exec_ldpHLAtIdx, exec_ldpIdxAtMn, exec_pushZz,
    exec_pushIdx, exec_popZz, exec_popIdx, exec_exAtSPIdx, exec_aluR, exec_aluN, exec_aluAtHL, exec_aluAtIdx,
    exec_incR, exec_incAtIdx, exec_decR, exec_decAtIdx, exec_addHLSs, exec_addIdx, exec_adcHLSs, exec_sbcHLSs,
    exec_andIdxDE, exec_orIdxDE, exec_boolIdx, exec_incSs, exec_incIdx, exec_decSs, exec_decIdx, exec_rotR,
    exec_rotAtHL, exec_rotAtIdx, exec_rrIdx, exec_bitR, exec_bitAtHL, exec_bitAtIdx, exec_resR, exec_resAtHL,
    exec_resAtIdx, exec_setR, exec_setAtHL, exec_setAtIdx, exec_jpF, exec_jpIdx, exec_jrCc, exec_retF, exec_rst]
  case ipset_0 | ipset_1 | ipset_2 | ipset_3 | ipres | pop_IP | reti =>
    exact answersApart_next ⟨nofun, fun _ => rfl, fun _ => rfl, fun _ => rfl, fun _ => rfl⟩ (.of_eq rfl rfl)
  case setusr | sures | pop_SU =>
    exact answersApart_next ⟨fun _ => rfl, nofun, fun _ => rfl, fun _ => rfl, fun _ => rfl⟩ (.of_eq rfl rfl)
  case ld_XPC_A | lret | ljp_x_mn | lcall_x_mn =>
    exact answersApart_next ⟨fun _ => rfl, fun _ => rfl, nofun, fun _ => rfl, fun _ => rfl⟩ (.of_eq rfl rfl)
  case ld_IIR_A =>
    exact answersApart_next ⟨fun _ => rfl, fun _ => rfl, fun _ => rfl, (absurd rfl ·), fun _ => rfl⟩ (.of_eq rfl rfl)
  case ld_EIR_A =>
    exact answersApart_next ⟨fun _ => rfl, fun _ => rfl, fun _ => rfl, fun _ => rfl, (absurd rfl ·)⟩ (.of_eq rfl rfl)
  case ldAltBC p => exact ldAlt_answersApart (writesAlt_ldAltBC p) _ _
  case ldAltDE p => exact ldAlt_answersApart (writesAlt_ldAltDE p) _ _
  case ex_AF_AF' | exx => exact answersApart_next (.of_special rfl) ⟨nofun, nofun⟩
  case uma | ums =>
    exact answersApart_next (.of_special (congrArg Prod.fst (State.again_outsideMain _))) ⟨nofun, nofun⟩
  case ex_DE_HL => exact execEx_DE_HL_answersApart
  case ex_DE'_HL => exact execEx_DE'_HL_answersApart
  case mul | ldp_HL_atHL | ldp_HL_atMn | rdmode => exact answersApart_of_outsideMain rfl rfl
  case ldpHLAtIdx x => exact answersApart_of_outsideMain (writesMain_ldpHLAtIdx x) rfl
  case ldi | ldd => exact answersApart_of_outsideMain rfl (s.ldIter_outsideMain _ _)
  case ldir | lddr | ldisr | lddsr =>
    exact answersApart_of_outsideMain rfl ((State.again_outsideMain _).trans (s.ldIter_outsideMain _ _))
  case lsir | lsdr | lsidr | lsddr =>
    exact answersApart_of_outsideMain rfl ((State.again_outsideMain _).trans (s.lsIter_outsideMain _ _))
  case altd => exact execAltd_answersApart
  case ioi | ioe => exact ioMark_answersApart _
  case idet => exact execIdet_answersApart
  case ldDdMn | incSs | decSs => exact dstDd_answersApart rfl _ _
  case ldDdAtMn => exact dstDd_answersApart (s.dataRead16_core _) _ _
  case jpF | jrCc | retF => exact answersApart_of_core (by split <;> rfl)
  case aluR | aluN => exact answersApart_of_confined (aluA_confined s _ _)
  case aluAtHL | aluAtIdx =>
    exact answersApart_of_confined (.trans (.of_core (s.dataRead8_core _)) (aluA_confined _ _ _))
  case bitAtIdx => exact answersApart_of_confined (bitMem_confined s _ _)
  case bitAtHL => exact answersApart_of_confined ((bitMem_confined s _ _).congr_core rfl)
  case ld_A_XPC => exact answersApart_of_confined (ldA_XPC_confined s)
  case djnz_e => exact execDjnz_e_answersApart _
  case ldRG | ldRN | resR | setR | cpl | ldHLIdx | ld_HL_atSPn => exact answersApart_of_confined (s.updDest_confined _)
  case popZz | ex_atSP_HL => exact answersApart_of_confined (.updDest (.of_core rfl))
  case ldRAtHL | ldRAtIdx | ld_A_atBC | ld_A_atDE | ld_A_atMn =>
    exact answersApart_of_confined (.updDest (.of_core (s.dataRead8_core _)))
  case ldHLAtIdx | ld_HL_atMn | ld_HL_atHLd =>
    exact answersApart_of_confined (.updDest (.of_core (s.dataRead16_core _)))
  case ccf | scf | bitR | add_SP_d | addIdx | andIdxDE | orIdxDE | boolIdx | rrIdx =>
    exact answersApart_of_confined (.setFlags (.of_core rfl))
  case incR | decR | neg | addHLSs | adcHLSs | sbcHLSs | and_HL_DE | or_HL_DE | bool_HL | rlca | rrca | rla | rra |
      rotR | rl_DE | rr_DE | rr_HL | ld_A_EIR | ld_A_IIR =>
    exact answersApart_of_confined (s.updDest_confined _).setFlags
  case incAtIdx | decAtIdx | inc_atHL | dec_atHL | rotAtHL | rotAtIdx =>
    exact answersApart_of_confined (.setFlags (.of_core (s.dataWrite8_dataRead8_core _ _)))
  case resAtHL | resAtIdx | setAtHL | setAtIdx => exact answersApart_of_core (s.dataWrite8_dataRead8_core _ _)
  case ldIdxAtMn => exact answersApart_of_core (s.dataRead16_core _)
  case ldAtHLR | ldAtIdxR | ldAtIdxN | ld_atBC_A | ld_atDE_A | ld_atMn_A | ld_atHL_n =>
    exact answersApart_of_core (s.dataWrite8_core _ _)
  case ldAtMnSs | ldAtMnIdx | ldAtIdxHL | ld_atMn_HL | ld_atHLd_HL =>
    exact answersApart_of_core (s.dataWrite16_core _ _)
  all_goals exact answersApart_of_core rfl

end Answers

/-- Settles O13: an instruction on no list keeps all five registers, a listed one all but what it is listed for. -/
theorem specialRegisterWriters : Obligations.SpecialRegisterWriters := by
  unfold Obligations.SpecialRegisterWriters
  intro i s t h
  obtain ⟨⟨ip, su, xpc, iir, eir⟩, -⟩ := exec_answersApart i s t h
  exact ⟨ip, su, xpc, iir, eir⟩

/-- Settles O14: an instruction on no list writes at most the bank that ALTD selects. -/
theorem banksKeptApart : Obligations.BanksKeptApart := by
  unfold Obligations.BanksKeptApart
  intro i s t h
  obtain ⟨-, alt, main⟩ := exec_answersApart i s t h
  exact ⟨alt, main⟩

end Sys2Proof.Machine

namespace Sys2Proof

/-! ## The bytes 76, D3 and DB (30_encoding.md R128) -/

/-- They are ALTD, IOI and IOE, and no other instruction. -/
theorem Instr.isPrefix_cases {i : Instr} (h : i.isPrefix = true) : i = .altd ∨ i = .ioi ∨ i = .ioe := by
  cases i
  case altd => exact .inl rfl
  case ioi => exact .inr (.inl rfl)
  case ioe => exact .inr (.inr rfl)
  all_goals exact absurd h Bool.false_ne_true

end Sys2Proof

namespace Sys2Proof.Machine

/-! ## Every instruction keeps memory canonical (20_memory.md R91) -/

/-- If this answers a next state, the memory of that is canonical. -/
def AnswersWf (e : Exec) : Prop := ∀ t, e = .next t → t.mem.wf

section AnswersWf

variable {s t : State}

theorem answersWf_next (h : t.mem.wf) : AnswersWf (.next t) := by
  rintro _ ⟨⟩
  exact h

/-- An instruction that leaves memory alone. -/
theorem answersWf_of_mem (h : s.mem.wf) (e : t.mem = s.mem) : AnswersWf (.next t) :=
  answersWf_next (by rwa [e])

theorem answersWf_refused (r : Refusal) : AnswersWf (.refused r) := by
  rintro _ ⟨⟩

theorem dstDd_answersWf (h : t.mem.wf) (r : Dd) (v : Word) : AnswersWf (t.dstDd r v) := by
  cases r with
  | bc | de | hl => exact answersWf_next h
  | sp =>
    unfold State.dstDd
    dsimp only
    split
    · exact answersWf_refused _
    · exact answersWf_next h

theorem ioMark_answersWf (h : s.mem.wf) (sp : IoSpace) : AnswersWf (ioMark sp s) := by
  unfold ioMark
  split
  · exact answersWf_next h
  · exact answersWf_refused _

theorem execAltd_answersWf (h : s.mem.wf) : AnswersWf (execAltd s) := by
  unfold execAltd
  split
  · exact answersWf_refused _
  · exact answersWf_next h

theorem execIdet_answersWf (h : s.mem.wf) : AnswersWf (execIdet s) := by
  unfold execIdet
  split <;> exact answersWf_next h

theorem execEx_DE_HL_answersWf (h : s.mem.wf) : AnswersWf (execEx_DE_HL s) := by
  unfold execEx_DE_HL
  split <;> exact answersWf_next h

theorem execEx_DE'_HL_answersWf (h : s.mem.wf) : AnswersWf (execEx_DE'_HL s) := by
  unfold execEx_DE'_HL
  split <;> exact answersWf_next h

theorem aluA_mem (op : AluOp) (x : Byte) (s : State) : (aluA op x s).mem = s.mem := by cases op <;> rfl

theorem State.dataRead8_wf (h : s.mem.wf) (a : Word) : (s.dataRead8 a).2.mem.wf := by
  rwa [State.dataRead8_mem]

theorem State.dataRead16_wf (h : s.mem.wf) (a : Word) : (s.dataRead16 a).2.mem.wf := by
  rwa [State.dataRead16_mem]

/-- A byte read, changed and stored. -/
theorem State.dataWrite8_dataRead8_wf (h : s.mem.wf) (a : Word) (v : Byte) :
    ((s.dataRead8 a).2.dataWrite8 a v).mem.wf := State.dataWrite8_wf (State.dataRead8_wf h a) a v

theorem State.callTo_wf (h : s.mem.wf) (v : Word) : (s.callTo v).mem.wf := State.push16_wf h s.pc

theorem State.ldIter_wf (h : s.mem.wf) (dDE dHL : Word) : (s.ldIter dDE dHL).mem.wf :=
  State.dataWrite8_wf h s.de (s.memRead8 s.hl)

theorem State.lsIter_wf (h : s.mem.wf) (dDE dHL : Word) : (s.lsIter dDE dHL).mem.wf :=
  State.memWrite8_wf (State.dataRead8_wf h s.hl) s.de (s.dataRead8 s.hl).1

theorem State.macIter_wf (h : s.mem.wf) (v : BitVec 25) : (s.macIter v).mem.wf := State.memWrite8_wf h s.hl _

theorem State.again_wf (h : s.mem.wf) : s.again.mem.wf := by
  rw [s.again_rest]
  exact h

/-- Every instruction: those that store through the operations above, those that read data, those that leave memory
alone. -/
theorem exec_answersWf (i : Instr) (h : s.mem.wf) : AnswersWf (exec i s) := by
  cases i using Instr.form_cases
  all_goals try simp only [exec_ldRG, exec_ldRN, exec_ldRAtHL, exec_ldRAtIdx, exec_ldAtHLR, exec_ldAtIdxR,
    exec_ldAtIdxN, exec_ldDdMn, exec_ldIdxMn, exec_ldDdAtMn, exec_ldIdxAtMn, exec_ldAtMnSs, exec_ldAtMnIdx,
    exec_ldHLAtIdx, exec_ldAtIdxHL, exec_ldIdxAtSP, exec_ldAtSPIdx, exec_ldHLIdx, exec_ldIdxHL, exec_ldSPIdx,
    exec_ldAltBC, exec_ldAltDE, exec_ldpAtIdxHL, exec_ldpAtMnIdx, exec_ldpHLAtIdx, exec_ldpIdxAtMn, exec_pushZz,
    exec_pushIdx, exec_popZz, exec_popIdx, exec_exAtSPIdx, exec_aluR, exec_aluN, exec_aluAtHL, exec_aluAtIdx,
    exec_incR, exec_incAtIdx, exec_decR, exec_decAtIdx, exec_addHLSs, exec_addIdx, exec_adcHLSs, exec_sbcHLSs,
    exec_andIdxDE, exec_orIdxDE, exec_boolIdx, exec_incSs, exec_incIdx, exec_decSs, exec_decIdx, exec_rotR,
    exec_rotAtHL, exec_rotAtIdx, exec_rrIdx, exec_bitR, exec_bitAtHL, exec_bitAtIdx, exec_resR, exec_resAtHL,
    exec_resAtIdx, exec_setR, exec_setAtHL, exec_setAtIdx, exec_jpF, exec_jpIdx, exec_jrCc, exec_retF, exec_rst]
  case ldAtHLR | ldAtIdxR | ldAtIdxN | ld_atBC_A | ld_atDE_A | ld_atMn_A | ld_atHL_n =>
    exact answersWf_next (State.dataWrite8_wf h _ _)
  case ldAtMnSs | ldAtMnIdx | ldAtIdxHL | ld_atMn_HL | ld_atHLd_HL =>
    exact answersWf_next (State.dataWrite16_wf h _ _)
  case ldAtSPIdx | ld_atSPn_HL | exAtSPIdx | ex_atSP_HL => exact answersWf_next (State.memWrite16_wf h _ _)
  case ldpAtIdxHL | ldpAtMnIdx | ldp_atHL_HL | ldp_atMn_HL => exact answersWf_next (State.physWrite16_wf h _ _ _)
  case incAtIdx | decAtIdx | inc_atHL | dec_atHL | rotAtHL | rotAtIdx | resAtHL | resAtIdx | setAtHL | setAtIdx =>
    exact answersWf_next (State.dataWrite8_dataRead8_wf h _ _)
  case push_IP | push_SU => exact answersWf_next (State.push8_wf h _)
  case pushZz | pushIdx => exact answersWf_next (State.push16_wf h _)
  case rst | call_mn | syscall => exact answersWf_next (State.callTo_wf h _)
  case lcall_x_mn => exact answersWf_next (State.push16_wf (State.push8_wf h s.xpc) s.pc)
  case ldi | ldd => exact answersWf_next (State.ldIter_wf h _ _)
  case ldir | lddr | ldisr | lddsr => exact answersWf_next (State.again_wf (State.ldIter_wf h _ _))
  case lsir | lsdr | lsidr | lsddr => exact answersWf_next (State.again_wf (State.lsIter_wf h _ _))
  case uma | ums => exact answersWf_next (State.again_wf (State.macIter_wf h _))
  case ldRAtHL | ldRAtIdx | ld_A_atBC | ld_A_atDE | ld_A_atMn | bitAtHL | bitAtIdx =>
    exact answersWf_next (State.dataRead8_wf h _)
  case ldIdxAtMn | ldHLAtIdx | ld_HL_atMn | ld_HL_atHLd => exact answersWf_next (State.dataRead16_wf h _)
  case ldDdAtMn => exact dstDd_answersWf (State.dataRead16_wf h _) _ _
  case aluAtHL | aluAtIdx => exact answersWf_of_mem (State.dataRead8_wf h _) (aluA_mem _ _ _)
  case aluR | aluN => exact answersWf_of_mem h (aluA_mem _ _ _)
  case ldDdMn | incSs | decSs => exact dstDd_answersWf h _ _
  case jpF | jrCc | retF | djnz_e => exact answersWf_of_mem h (by split <;> rfl)
  case altd => exact execAltd_answersWf h
  case ioi | ioe => exact ioMark_answersWf h _
  case idet => exact execIdet_answersWf h
  case ex_DE_HL => exact execEx_DE_HL_answersWf h
  case ex_DE'_HL => exact execEx_DE'_HL_answersWf h
  all_goals exact answersWf_of_mem h rfl

end AnswersWf

/-! ## The context ends with its instruction (10_state.md R50; 30_encoding.md R127, R141, R142) -/

/-- How many of ALTD and one of IOI, IOE may still come before the instruction. -/
def PrefixCtx.free (c : PrefixCtx) : Nat := (!c.altd).toNat + c.iop.isNone.toNat

section RunUnit

variable {f : UserModeRestriction} {i : Instr} {s t : State}

theorem execAltd_free (h : execAltd s = .next t) : t.ctx.free + 1 = s.ctx.free := by
  unfold execAltd at h
  split at h
  next => cases h
  next hn =>
    cases h
    simp [PrefixCtx.free, hn, Nat.add_comm]

theorem ioMark_free {sp : IoSpace} (h : ioMark sp s = .next t) : t.ctx.free + 1 = s.ctx.free := by
  unfold ioMark at h
  split at h
  next hn =>
    cases h
    simp [PrefixCtx.free, hn]
  next => cases h

/-- ALTD, IOI or IOE runs only where it was free, and uses that up. -/
theorem exec_isPrefix_free (hi : i.isPrefix = true) (h : exec i s = .next t) : t.ctx.free + 1 = s.ctx.free := by
  obtain rfl | rfl | rfl := Instr.isPrefix_cases hi
  · exact execAltd_free h
  · exact ioMark_free h
  · exact ioMark_free h

/-- A unit that does not stop ran its instruction, or ALTD, IOI or IOE and, with fuel left, the rest of the unit. -/
theorem runUnit_next {n : Nat} (h : runUnit f n s = .next t) :
    (∃ i, runInstr f i s = .next t) ∨
    ∃ i u, i.isPrefix = true ∧ exec i (s.advance i.size) = .next u ∧
      (n = 0 ∧ t = u ∨ ∃ m, n = m + 1 ∧ runUnit f m u = .next t) := by
  unfold runUnit at h
  split at h
  · cases h
  next i rest _ =>
    split at h
    next hi =>
      cases n with
      | zero => exact .inr ⟨i, t, hi, h, .inl ⟨rfl, rfl⟩⟩
      | succ m =>
        dsimp only at h
        split at h
        next u hu => exact .inr ⟨i, u, hi, hu, .inr ⟨m, rfl, h⟩⟩
        all_goals cases h
    next => exact .inl ⟨i, h⟩

/-- The instruction behind ALTD, IOI and IOE ends the context. -/
theorem runInstr_inv (hw : s.mem.wf) (h : runInstr f i s = .next t) : Inv t := by
  unfold runInstr at h
  split at h
  · cases h
  split at h
  next u hu =>
    cases h
    exact ⟨exec_answersWf i (s := (s.advance i.size).markRestricted (s.isRestricted f i)) hw u hu, rfl⟩
  all_goals cases h

/-- With fuel for each of ALTD, IOI and IOE that may still come, the fuel does not run out, so the unit ends with its
instruction. -/
theorem runUnit_inv {n : Nat} (hn : s.ctx.free ≤ n) (hw : s.mem.wf) (h : runUnit f n s = .next t) : Inv t := by
  induction n generalizing s with
  | zero =>
    obtain ⟨i, hi⟩ | ⟨i, u, hp, hu, -⟩ := runUnit_next h
    · exact runInstr_inv hw hi
    · have used : u.ctx.free + 1 = s.ctx.free := exec_isPrefix_free (s := s.advance i.size) hp hu
      omega
  | succ n ih =>
    obtain ⟨i, hi⟩ | ⟨i, u, hp, hu, ⟨h0, -⟩ | ⟨m, hm, hr⟩⟩ := runUnit_next h
    · exact runInstr_inv hw hi
    · exact absurd h0 n.succ_ne_zero
    · have used : u.ctx.free + 1 = s.ctx.free := exec_isPrefix_free (s := s.advance i.size) hp hu
      obtain rfl : n = m := Nat.succ.inj hm
      exact ih (by omega) (exec_answersWf i (s := s.advance i.size) hw u hu) hr

end RunUnit

/-- Entering an interrupt by the default keeps the invariant: it pushes PC, and begins no instruction. -/
theorem takeInterrupt_inv {s : State} (h : Inv s) (r : IntRequest) (b : Bool) : Inv (s.takeInterrupt r b) :=
  ⟨State.takeInterrupt_wf h.mem r b, (State.takeInterrupt_ctx s r b).trans h.ctx⟩

/-- Settles O9: an interrupt entry, or a unit begun with fuel for ALTD and one of IOI and IOE. -/
theorem stepKeepsInvariant : Obligations.StepKeepsInvariant := by
  unfold Obligations.StepKeepsInvariant
  intro s t inv h
  unfold step State.run State.runWith at h
  split at h
  next r _ =>
    obtain rfl := Host.Outcome.next.inj h
    exact takeInterrupt_inv (s := s.nextBoundary) ⟨inv.mem, inv.ctx⟩ r.1 r.2
  next => exact runUnit_inv (s := s.nextBoundary.beginInstr) le_rfl inv.mem h

/-! ## A stored word as its two bytes (20_memory.md R81, R83) -/

section WordStore

variable {s : State}

/-- Without IOI and IOE a data write of a byte goes to memory. -/
theorem State.dataWrite8_of_iop_none (h : s.ctx.iop = none) (a : Word) (v : Byte) :
    s.dataWrite8 a v = s.memWrite8 a v := by
  unfold State.dataWrite8
  rw [h]

/-- Without IOI and IOE a data write of a word goes to memory. -/
theorem State.dataWrite16_of_iop_none (h : s.ctx.iop = none) (a v : Word) :
    s.dataWrite16 a v = s.memWrite16 a v := by
  unfold State.dataWrite16
  rw [State.dataWrite8_of_iop_none h]
  exact State.dataWrite8_of_iop_none (s := s.memWrite8 a (loByte v)) h (a + 1) (hiByte v)

/-- Without IOI and IOE a data read of a byte reads memory. -/
theorem State.dataRead8_of_iop_none (h : s.ctx.iop = none) (a : Word) : s.dataRead8 a = (s.memRead8 a, s) := by
  unfold State.dataRead8
  rw [h]

/-- LD A,(mn) without ALTD, IOI and IOE: main A is the byte of memory. -/
theorem exec_ld_A_atMn_of_idle (h : s.ctx = PrefixCtx.idle) (mn : Word) :
    ∃ t, exec (.ld_A_atMn mn) s = .next t ∧ t.main.a = s.memRead8 mn := by
  refine ⟨_, rfl, ?_⟩
  rw [State.dataRead8_of_iop_none (congrArg PrefixCtx.iop h)]
  simp [State.dst8, h, PrefixCtx.idle]

/-- LD (mn),HL without IOI and IOE stores main HL in memory. -/
theorem exec_ld_atMn_HL_of_idle (h : s.ctx = PrefixCtx.idle) (mn : Word) :
    exec (.ld_atMn_HL mn) s = .next (s.memWrite16 mn s.hl) :=
  congrArg Host.Outcome.next (State.dataWrite16_of_iop_none (congrArg PrefixCtx.iop h) mn s.hl)

end WordStore

/-- Settles O19: the word goes to memory low byte first, so at `mn` the low byte stays where the two are apart. -/
theorem wordStoreSeenAsBytes : Obligations.WordStoreSeenAsBytes := by
  unfold Obligations.WordStoreSeenAsBytes
  intro s mn idle
  have seen (a : Word) := exec_ld_A_atMn_of_idle (s := s.memWrite16 mn s.hl) idle a
  refine ⟨_, exec_ld_atMn_HL_of_idle idle mn, fun apart => ?low, ?high⟩
  case low =>
    obtain ⟨u, hu, ha⟩ := seen mn
    exact ⟨u, hu, ha.trans ((s.memRead8_memWrite16_low (s.apart_succ_ne apart) s.hl).trans (loByte_mkWord _ _))⟩
  case high =>
    obtain ⟨u, hu, ha⟩ := seen (mn + 1)
    exact ⟨u, hu, ha.trans ((s.memRead8_memWrite16_high mn s.hl).trans (hiByte_mkWord _ _))⟩

/-! ## Pushes and pops of a word (20_memory.md R86; 42_stack_exchange.md R301-R303, R306-R308) -/

section WordStack

variable (s : State)

theorem Bank.getZz_zz (k : Bank) (p : Pair) : k.getZz p.zz = k.pair p := by cases p <;> rfl

theorem Bank.setZz_zz (k : Bank) (p : Pair) (v : Word) : k.setZz p.zz v = k.setPair p v := by cases p <;> rfl

/-- The word on top of the stack, as a number. -/
theorem State.top16_toNat : s.top16.toNat = s.wordAt s.sp := memRead16_toNat s s.sp

/-- PUSH BC, PUSH DE, PUSH HL push the main pair. -/
theorem exec_pushZz_zz (p : Pair) : exec (Form.pushZz p.zz) s = .next (s.push16 (s.main.pair p)) := by
  rw [exec_pushZz, pushZz, Bank.getZz_zz]

/-- POP BC, POP DE, POP HL write the pair as a load does, behind the move of SP. -/
theorem exec_popZz_zz (p : Pair) : exec (Form.popZz p.zz) s = .next ((s.dropStack 2).dst16 p s.top16) := by
  simp only [exec_popZz, popZz, Bank.setZz_zz, State.dst16]

/-- A change of the destination bank writes the registers it changes, and flags. -/
theorem State.updDest_writesFlags (f : Bank → Bank) (rs : List Reg8)
    (hr : ∀ k q, q ∉ rs → (f k).get q = k.get q) : WritesRegsFlags rs s (s.updDest f) where
  rest := rfl
  mem _ := rfl
  other := (s.updDest_confined f).other
  regs q hq := by
    rw [s.updDest_destBank]
    cases s.ctx.altd <;> exact hr _ q hq

/-- Of the byte registers AF holds A alone. -/
theorem Bank.get_setZz_af_ne (k : Bank) {q : Reg8} (h : q ∉ [Reg8.a]) (v : Word) :
    (k.setZz .af v).get q = k.get q := by
  cases q with
  | a => exact absurd List.mem_cons_self h
  | b | c | d | e | h | l => rfl

/-- POP AF writes A from the byte at SP + 1 and all of F from the byte at SP, in the destination bank. -/
theorem exec_popZz_af : ∃ t, exec (Form.popZz .af) s = .next t ∧
    (t.destBank s.ctx.altd).a = s.memRead8 (s.sp + 1) ∧ (t.destFlags s.ctx.altd).toByte = s.memRead8 s.sp ∧
    WritesRegsFlags [.a] { s with sp := s.sp + 2 } t := by
  have dest : (((s.dropStack 2).updDest fun k => k.setZz .af s.top16).destBank s.ctx.altd)
      = ((s.dropStack 2).destBank s.ctx.altd).setZz .af s.top16 := (s.dropStack 2).updDest_destBank _
  refine ⟨_, exec_popZz s .af, ?a, ?f, (s.dropStack 2).updDest_writesFlags _ _ fun k _ h => k.get_setZz_af_ne h _⟩
  case a => exact (congrArg Bank.a dest).trans (hiByte_mkWord _ _)
  case f =>
    rw [State.destFlags, dest]
    exact (Flags.toByte_ofByte _).trans (loByte_mkWord _ _)

end WordStack

/-- Settles O30: every push is `State.push16` of its operand, every pop a write of the word on top of the stack behind
the move of SP. -/
theorem stackOrder : Obligations.StackOrder := by
  unfold Obligations.StackOrder
  intro s
  refine ⟨?push, fun p => ?popPair, exec_popZz_af s, fun x => ?popIdx⟩
  case push =>
    intro i v operand
    have pushed : exec i s = .next (s.push16 v) := by
      obtain ⟨p, rfl, rfl⟩ | ⟨rfl, rfl⟩ | ⟨x, rfl, rfl⟩ := operand
      · exact exec_pushZz_zz s p
      · exact exec_pushZz s .af
      · exact exec_pushIdx s x
    exact ⟨_, pushed, s.push16_pushes v, s.push16_rest v⟩
  case popPair =>
    refine ⟨_, exec_popZz_zz s p, ?_, (s.dropStack 2).dst16_writes p s.top16⟩
    rw [← s.top16_toNat]
    exact congrArg BitVec.toNat ((s.dropStack 2).dst16_pair p s.top16)
  case popIdx =>
    refine ⟨_, exec_popIdx s x, ?_, (s.dropStack 2).setIdx_writes x s.top16⟩
    rw [State.setIdx_idx, s.top16_toNat]

end Sys2Proof.Machine

namespace Sys2Proof

open Machine

/-! ## The decoder reads back what the encoder writes (30_encoding.md R120-R136) -/

section DecodeEncode

variable {v : Variant} {rest : List Byte}

/-- A 16-bit constant is read back from its two bytes, the low one first. -/
theorem decode_encode_of_operandMn (f : Word → Instr) (mn : Word)
    (h : decode v (encode (f mn) ++ rest) = operandMn f (loByte mn :: hiByte mn :: rest)) :
    decode v (encode (f mn) ++ rest) = .ok (f mn, rest) := by
  rw [h]
  exact congrArg (fun w => Except.ok (f w, rest)) (mkWord_hi_lo mn)

/-- Byte 5B, LD E,E, is another instruction on the Rabbit 3000A. -/
theorem decode_encode_ldRG (r g : Reg8) (h : (Form.ldRG r g).existsOn v = true) :
    decode v (encode (Form.ldRG r g) ++ rest) = .ok (Form.ldRG r g, rest) := by
  cases r <;> cases g
  case e.e =>
    cases v with
    | r2000 | r3000 => rfl
    | r3000a => exact absurd h Bool.false_ne_true
  all_goals rfl

theorem decode_encode_idet (h : Instr.idet.existsOn v = true) :
    decode v (encode .idet ++ rest) = .ok (.idet, rest) := by
  cases v with
  | r2000 | r3000 => exact absurd h Bool.false_ne_true
  | r3000a => rfl

/-- Every instruction: first those that some chip lacks, then those with a 16-bit constant; the opcode of the others
decides how they are read. -/
theorem decode_encode {i : Instr} (h : i.existsOn v = true) : decode v (encode i ++ rest) = .ok (i, rest) := by
  cases i using Instr.form_cases
  case ldRG r g => exact decode_encode_ldRG r g h
  case idet => exact decode_encode_idet h
  case ldisr | lddsr | lsir | lsdr | lsidr | lsddr | uma | ums | rdmode | setusr | sures | syscall | push_SU | pop_SU =>
    exact if_pos h
  case ldDdMn u mn | jpF u mn | ldIdxMn u mn | ldAtMnIdx u mn | ldIdxAtMn u mn | ldpAtMnIdx u mn | ldpIdxAtMn u mn |
      ldAtMnSs u mn | ldDdAtMn u mn => exact decode_encode_of_operandMn _ mn (by cases u <;> rfl)
  case ld_atMn_HL mn | ld_HL_atMn mn | ld_atMn_A mn | ld_A_atMn mn | jp_mn mn | call_mn mn | ldp_atMn_HL mn |
      ldp_HL_atMn mn => exact decode_encode_of_operandMn _ mn rfl
  case ljp_x_mn mn x =>
    exact congrArg (fun w => Except.ok (Instr.ljp_x_mn w x, rest)) (mkWord_hi_lo mn)
  case lcall_x_mn mn x =>
    exact congrArg (fun w => Except.ok (Instr.lcall_x_mn w x, rest)) (mkWord_hi_lo mn)
  case aluR u w | rotR u w | bitR u w | resR u w | setR u w | aluAtIdx u w _ | rotAtIdx u w _ | bitAtIdx u w _ |
      resAtIdx u w _ | setAtIdx u w _ | ldRAtIdx u w _ | ldAtIdxR u w _ | addIdx u w => cases u <;> cases w <;> rfl
  case jrCc u _ | ldRN u _ | aluN u _ | ldHLAtIdx u _ | ldAtIdxHL u _ | incAtIdx u _ | decAtIdx u _ | ldAtIdxN u _ _ |
      ldIdxAtSP u _ | ldAtSPIdx u _ | incSs u | incR u | decR u | addHLSs u | decSs u | ldRAtHL u | ldAtHLR u |
      aluAtHL u | retF u | popZz u | pushZz u | rst u | rotAtHL u | bitAtHL u | resAtHL u | setAtHL u | incIdx u |
      decIdx u | ldpAtIdxHL u | ldpHLAtIdx u | ldHLIdx u | ldIdxHL u | boolIdx u | andIdxDE u | popIdx u | exAtSPIdx u |
      pushIdx u | jpIdx u | orIdxDE u | ldSPIdx u | rrIdx u | ldAltDE u | sbcHLSs u | ldAltBC u | adcHLSs u =>
    cases u <;> rfl
  all_goals rfl

end DecodeEncode

/-- Settles O1, by the forms of instructions. -/
theorem decodeOfEncode : Obligations.DecodeOfEncode := by
  unfold Obligations.DecodeOfEncode
  intro v i rest h
  exact decode_encode h

end Sys2Proof

namespace Sys2Proof

open Machine

/-! ## Opcodes by their fields (30_encoding.md R122, R131-R134) -/

/-- The opcode with `x` in bits 7..6, `y` in bits 5..3 and `z` in bits 2..0. -/
def opcode (x y z : Nat) : Byte := BitVec.ofNat 8 (64 * x + 8 * y + z)

/-- A byte is the opcode of its fields. -/
theorem eq_opcode {op : Byte} {x y z : Nat} (hx : op.toNat / 64 = x) (hy : op.toNat / 8 % 8 = y)
    (hz : op.toNat % 8 = z) : op = opcode x y z := by
  apply BitVec.eq_of_toNat_eq
  rw [opcode, BitVec.toNat_ofNat]
  have := op.isLt
  omega

theorem topField_eq_three {op : Byte} (h0 : op.toNat / 64 ≠ 0) (h1 : op.toNat / 64 ≠ 1) (h2 : op.toNat / 64 ≠ 2) :
    op.toNat / 64 = 3 := by
  have := op.isLt
  omega

section Fields

variable {n : Nat}

theorem Machine.Reg8.eq_code_of_ofField {r : Reg8} (h : Reg8.ofField n = some r) : n = r.code := by
  unfold Reg8.ofField at h
  split at h <;> cases h <;> rfl

/-- The one field value that selects no byte register. -/
theorem Machine.Reg8.eq_six_of_ofField (hn : n < 8) (h : Reg8.ofField n = none) : n = 6 := by
  interval_cases n <;> simp [Reg8.ofField] at h ⊢

theorem Machine.RotOp.eq_code_of_ofField {o : RotOp} (h : RotOp.ofField n = some o) : n = o.code := by
  unfold RotOp.ofField at h
  split at h <;> cases h <;> rfl

theorem Machine.Cond.code_ofField (h : n < 8) : (Cond.ofField n).code = n := by interval_cases n <;> rfl

theorem Machine.AluOp.code_ofField (h : n < 8) : (AluOp.ofField n).code = n := by interval_cases n <;> rfl

theorem Machine.BitNo.toNat_ofField (h : n < 8) : (BitNo.ofField n).toNat = n := by interval_cases n <;> rfl

end Fields

/-! ## The bytes of the forms with fields -/

section EncodeForms

variable (mn : Word) (n d : Byte) (x : Idx) (r g : Reg8) (b : BitNo) (o : AluOp) (m : RotOp) (f : Cond)

theorem encode_incR : encode (Form.incR r) = [opcode 0 r.code 4] := by cases r <;> rfl
theorem encode_decR : encode (Form.decR r) = [opcode 0 r.code 5] := by cases r <;> rfl
theorem encode_ldRN : encode (Form.ldRN r n) = [opcode 0 r.code 6, n] := by cases r <;> rfl

theorem encode_ldRG : encode (Form.ldRG r g) = [opcode 1 r.code g.code] := by cases r <;> cases g <;> rfl
theorem encode_ldRAtHL : encode (Form.ldRAtHL r) = [opcode 1 r.code 6] := by cases r <;> rfl
theorem encode_ldAtHLR : encode (Form.ldAtHLR r) = [opcode 1 6 r.code] := by cases r <;> rfl

theorem encode_aluR : encode (Form.aluR o r) = [opcode 2 o.code r.code] := by cases o <;> cases r <;> rfl
theorem encode_aluAtHL : encode (Form.aluAtHL o) = [opcode 2 o.code 6] := by cases o <;> rfl

theorem encode_retF : encode (Form.retF f) = [opcode 3 f.code 0] := by cases f <;> rfl
theorem encode_jpF : encode (Form.jpF f mn) = [opcode 3 f.code 2, loByte mn, hiByte mn] := by cases f <;> rfl
theorem encode_aluN : encode (Form.aluN o n) = [opcode 3 o.code 6, n] := by cases o <;> rfl

theorem encode_rotR : encode (Form.rotR m r) = [0xCB, opcode 0 m.code r.code] := by cases m <;> cases r <;> rfl
theorem encode_rotAtHL : encode (Form.rotAtHL m) = [0xCB, opcode 0 m.code 6] := by cases m <;> rfl
theorem encode_bitR : encode (Form.bitR b r) = [0xCB, opcode 1 b.toNat r.code] := by cases b <;> cases r <;> rfl
theorem encode_bitAtHL : encode (Form.bitAtHL b) = [0xCB, opcode 1 b.toNat 6] := by cases b <;> rfl
theorem encode_resR : encode (Form.resR b r) = [0xCB, opcode 2 b.toNat r.code] := by cases b <;> cases r <;> rfl
theorem encode_resAtHL : encode (Form.resAtHL b) = [0xCB, opcode 2 b.toNat 6] := by cases b <;> rfl
theorem encode_setR : encode (Form.setR b r) = [0xCB, opcode 3 b.toNat r.code] := by cases b <;> cases r <;> rfl
theorem encode_setAtHL : encode (Form.setAtHL b) = [0xCB, opcode 3 b.toNat 6] := by cases b <;> rfl

theorem encode_rotAtIdx : encode (Form.rotAtIdx m x d) = [pageByte x, 0xCB, d, opcode 0 m.code 6] := by
  cases m <;> cases x <;> rfl
theorem encode_bitAtIdx : encode (Form.bitAtIdx b x d) = [pageByte x, 0xCB, d, opcode 1 b.toNat 6] := by
  cases b <;> cases x <;> rfl
theorem encode_resAtIdx : encode (Form.resAtIdx b x d) = [pageByte x, 0xCB, d, opcode 2 b.toNat 6] := by
  cases b <;> cases x <;> rfl
theorem encode_setAtIdx : encode (Form.setAtIdx b x d) = [pageByte x, 0xCB, d, opcode 3 b.toNat 6] := by
  cases b <;> cases x <;> rfl

theorem encode_ldRAtIdx : encode (Form.ldRAtIdx x r d) = [pageByte x, opcode 1 r.code 6, d] := by
  cases x <;> cases r <;> rfl
theorem encode_ldAtIdxR : encode (Form.ldAtIdxR x r d) = [pageByte x, opcode 1 6 r.code, d] := by
  cases x <;> cases r <;> rfl
theorem encode_aluAtIdx : encode (Form.aluAtIdx o x d) = [pageByte x, opcode 2 o.code 6, d] := by
  cases o <;> cases x <;> rfl

end EncodeForms

/-! ## The decoder accepts only what the encoder writes (30_encoding.md R120-R136) -/

/-- If this answers an instruction, the bytes begin with the encoding of it, and what is left is behind. Each part of
the decoder is shown to be so. -/
structure AnswersEncoded (bs : List Byte) (d : Decoded) : Prop where
  eq_encode : ∀ i r, d = .ok (i, r) → bs = encode i ++ r

section AnswersEncoded

variable {v : Variant} {bs hd t : List Byte}

theorem answersEncoded_error (e : DecodeError) : AnswersEncoded bs (.error e) := ⟨nofun⟩

theorem answersEncoded_plain {i : Instr} (h : encode i = hd) : AnswersEncoded (hd ++ t) (plain i t) where
  eq_encode := by
    rintro _ _ ⟨⟩
    rw [h]

theorem answersEncoded_operand1 {f : Byte → Instr} (h : ∀ a, encode (f a) = hd ++ [a]) :
    AnswersEncoded (hd ++ t) (operand1 f t) := by
  cases t with
  | nil => exact answersEncoded_error _
  | cons a t =>
    rw [List.append_cons]
    exact answersEncoded_plain (h a)

theorem answersEncoded_operand2 {f : Byte → Byte → Instr} (h : ∀ a b, encode (f a b) = hd ++ [a, b]) :
    AnswersEncoded (hd ++ t) (operand2 f t) := by
  match t with
  | [] | [_] => exact answersEncoded_error _
  | a :: b :: t =>
    have split : hd ++ a :: b :: t = hd ++ [a, b] ++ t := by rw [List.append_assoc]; rfl
    rw [split]
    exact answersEncoded_plain (h a b)

theorem answersEncoded_operand3 {f : Byte → Byte → Byte → Instr}
    (h : ∀ a b c, encode (f a b c) = hd ++ [a, b, c]) :
    AnswersEncoded (hd ++ t) (operand3 f t) := by
  match t with
  | [] | [_] | [_, _] => exact answersEncoded_error _
  | a :: b :: c :: t =>
    have split : hd ++ a :: b :: c :: t = hd ++ [a, b, c] ++ t := by rw [List.append_assoc]; rfl
    rw [split]
    exact answersEncoded_plain (h a b c)

theorem answersEncoded_operandMn {f : Word → Instr} (h : ∀ mn, encode (f mn) = hd ++ [loByte mn, hiByte mn]) :
    AnswersEncoded (hd ++ t) (operandMn f t) :=
  answersEncoded_operand2 fun n m => by rw [h, loByte_mkWord, hiByte_mkWord]

/-- A 16-bit constant and an XPC value. -/
theorem answersEncoded_operandMnX {f : Word → Byte → Instr}
    (h : ∀ mn x, encode (f mn x) = hd ++ [loByte mn, hiByte mn, x]) :
    AnswersEncoded (hd ++ t) (operand3 (fun n m x => f (mkWord m n) x) t) :=
  answersEncoded_operand3 fun n m x => by rw [h, loByte_mkWord, hiByte_mkWord]

theorem answersEncoded_only3000A {i : Instr} (h : encode i = hd) (named : List Byte) :
    AnswersEncoded (hd ++ t) (only3000A v i named t) := by
  unfold only3000A
  split
  · exact answersEncoded_plain h
  · exact answersEncoded_error _

theorem answersEncoded_regOr {z : Nat} (hz : z < 8) {f : Reg8 → Decoded} {other : Decoded}
    (hf : ∀ r : Reg8, z = r.code → AnswersEncoded bs (f r)) (ho : z = 6 → AnswersEncoded bs other) :
    AnswersEncoded bs (regOr z f other) := by
  unfold regOr
  split
  next r hr => exact hf r (Reg8.eq_code_of_ofField hr)
  next hr => exact ho (Reg8.eq_six_of_ofField hz hr)

/-- The register forms, and the form of 110, of one operation. -/
theorem answersEncoded_regOr_plain {z : Nat} (hz : z < 8) {f : Reg8 → Instr} {i : Instr}
    (hf : ∀ r : Reg8, z = r.code → encode (f r) = hd) (hi : z = 6 → encode i = hd) :
    AnswersEncoded (hd ++ t) (regOr z (fun r => plain (f r) t) (plain i t)) :=
  answersEncoded_regOr hz (fun r hr => answersEncoded_plain (hf r hr)) fun h => answersEncoded_plain (hi h)

theorem decodeCB_answersEncoded (op : Byte) : AnswersEncoded ([0xCB, op] ++ t) (decodeCB op t) := by
  have hb : op.toNat / 8 % 8 = (BitNo.ofField (op.toNat / 8 % 8)).toNat := (BitNo.toNat_ofField (by omega)).symm
  have hz : op.toNat % 8 < 8 := by omega
  unfold decodeCB
  dsimp only
  generalize BitNo.ofField _ = b at hb ⊢
  split
  next hx =>
    split
    next m hm =>
      have hy := RotOp.eq_code_of_ofField hm
      refine answersEncoded_regOr_plain hz (fun r hr => ?_) (fun hr => ?_)
      · rw [encode_rotR, eq_opcode hx hy hr]
      · rw [encode_rotAtHL, eq_opcode hx hy hr]
    next => exact answersEncoded_error _
  next hx =>
    refine answersEncoded_regOr_plain hz (fun r hr => ?_) (fun hr => ?_)
    · rw [encode_bitR, eq_opcode hx hb hr]
    · rw [encode_bitAtHL, eq_opcode hx hb hr]
  next hx =>
    refine answersEncoded_regOr_plain hz (fun r hr => ?_) (fun hr => ?_)
    · rw [encode_resR, eq_opcode hx hb hr]
    · rw [encode_resAtHL, eq_opcode hx hb hr]
  next h0 h1 h2 =>
    have hx := topField_eq_three h0 h1 h2
    refine answersEncoded_regOr_plain hz (fun r hr => ?_) (fun hr => ?_)
    · rw [encode_setR, eq_opcode hx hb hr]
    · rw [encode_setAtHL, eq_opcode hx hb hr]

theorem decodeIdxCB_answersEncoded (x : Idx) (d op : Byte) :
    AnswersEncoded ([pageByte x, 0xCB, d, op] ++ t) (decodeIdxCB x d op t) := by
  have hb : op.toNat / 8 % 8 = (BitNo.ofField (op.toNat / 8 % 8)).toNat := (BitNo.toNat_ofField (by omega)).symm
  unfold decodeIdxCB
  dsimp only
  generalize BitNo.ofField _ = b at hb ⊢
  split
  next hz =>
    split
    next hx =>
      split
      next m hm =>
        refine answersEncoded_plain ?_
        rw [encode_rotAtIdx, eq_opcode hx (RotOp.eq_code_of_ofField hm) hz]
      next => exact answersEncoded_error _
    next hx =>
      refine answersEncoded_plain ?_
      rw [encode_bitAtIdx, eq_opcode hx hb hz]
    next hx =>
      refine answersEncoded_plain ?_
      rw [encode_resAtIdx, eq_opcode hx hb hz]
    next h0 h1 h2 =>
      refine answersEncoded_plain ?_
      rw [encode_setAtIdx, eq_opcode (topField_eq_three h0 h1 h2) hb hz]
  next => exact answersEncoded_error _

theorem decodeIdxOne_answersEncoded (x : Idx) (op : Byte) :
    AnswersEncoded ([pageByte x, op] ++ t) (decodeIdxOne x op t) := by
  unfold decodeIdxOne
  split
  case h_32 => exact answersEncoded_error _
  all_goals
    obtain ⟨-, rfl⟩ := BitVec.toNat_eq_nat.mp ‹op.toNat = _›
    apply_rules [answersEncoded_plain, answersEncoded_operandMn, answersEncoded_operand1, answersEncoded_operand2]
    all_goals
      intros
      cases x <;> rfl

theorem decodeED_answersEncoded (op : Byte) : AnswersEncoded ([0xED, op] ++ t) (decodeED v op t) := by
  unfold decodeED
  dsimp only
  split
  case h_62 => exact answersEncoded_error _
  all_goals
    obtain ⟨-, rfl⟩ := BitVec.toNat_eq_nat.mp ‹op.toNat = _›
    apply_rules [answersEncoded_plain, answersEncoded_only3000A, answersEncoded_operandMn]

theorem decodeIdx_answersEncoded (x : Idx) (op : Byte) :
    AnswersEncoded ([pageByte x, op] ++ t) (decodeIdx x op t) := by
  unfold decodeIdx
  dsimp only
  split
  next h =>
    obtain ⟨-, rfl⟩ := BitVec.toNat_eq_nat.mp h
    split
    next d op' t' => exact decodeIdxCB_answersEncoded x d op'
    next => exact answersEncoded_error _
  split
  next h =>
    obtain ⟨hx, hz⟩ := h
    refine answersEncoded_operand1 fun d => ?_
    rw [encode_aluAtIdx, ← eq_opcode hx (AluOp.code_ofField (by omega)).symm hz]
    rfl
  split
  next h =>
    obtain ⟨hx, hz⟩ := h
    refine answersEncoded_regOr (by omega) (fun r hr => answersEncoded_operand1 fun d => ?_)
      fun _ => answersEncoded_error _
    rw [encode_ldRAtIdx, ← eq_opcode hx hr hz]
    rfl
  split
  next h =>
    refine answersEncoded_regOr (by omega) (fun r hr => answersEncoded_operand1 fun d => ?_)
      fun _ => answersEncoded_error _
    rw [encode_ldAtIdxR, ← eq_opcode (by omega) (by omega) hr]
    rfl
  next => exact decodeIdxOne_answersEncoded x op

/-- Columns 4 to 6 hold a form of register field `y`; in the others every position is read on its own. -/
theorem decodeRow0_answersEncoded {y z : Nat} (hy : y < 8) (hz : z < 8) :
    AnswersEncoded ([opcode 0 y z] ++ t) (decodeRow0 y z t) := by
  unfold decodeRow0
  dsimp only
  match z, hz with
  | 4, _ =>
    refine answersEncoded_regOr_plain hy (fun r hr => ?_) (fun h => ?_)
    · rw [encode_incR, hr]
    · rw [h]; rfl
  | 5, _ =>
    refine answersEncoded_regOr_plain hy (fun r hr => ?_) (fun h => ?_)
    · rw [encode_decR, hr]
    · rw [h]; rfl
  | 6, _ =>
    refine answersEncoded_regOr hy (fun r hr => answersEncoded_operand1 fun n => ?_)
      (fun h => answersEncoded_operand1 fun n => ?_)
    · rw [encode_ldRN, hr]; rfl
    · rw [h]; rfl
  | 0, _ | 1, _ | 2, _ | 3, _ | 7, _ =>
    interval_cases y <;> apply_rules [answersEncoded_plain, answersEncoded_operandMn, answersEncoded_operand1]

theorem decodeRow1_answersEncoded {y z : Nat} (hy : y < 8) (hz : z < 8) :
    AnswersEncoded ([opcode 1 y z] ++ t) (decodeRow1 v y z t) := by
  unfold decodeRow1
  split
  next h =>
    obtain ⟨rfl, rfl, -⟩ := h
    exact answersEncoded_plain rfl
  next =>
    refine answersEncoded_regOr hy (fun r hr => ?reg) (fun h => ?atHL)
    case reg =>
      refine answersEncoded_regOr_plain hz (fun g hg => ?_) (fun h => ?_)
      · rw [encode_ldRG, hr, hg]
      · rw [encode_ldRAtHL, hr, h]
    case atHL =>
      refine answersEncoded_regOr_plain hz (fun g hg => ?_) (fun h' => ?_)
      · rw [encode_ldAtHLR, h, hg]
      · rw [h, h']; rfl

/-- Columns 0, 2 and 6 hold a form of field `y`; in the others every position is read on its own, and four of them
begin a page. -/
theorem decodeRow3_answersEncoded {y z : Nat} (hy : y < 8) (hz : z < 8) :
    AnswersEncoded ([opcode 3 y z] ++ t) (decodeRow3 v y z t) := by
  unfold decodeRow3
  dsimp only
  match z, hz with
  | 0, _ => exact answersEncoded_plain (by rw [encode_retF, Cond.code_ofField hy])
  | 2, _ => exact answersEncoded_operandMn fun mn => by rw [encode_jpF, Cond.code_ofField hy]; rfl
  | 6, _ => exact answersEncoded_operand1 fun n => by rw [encode_aluN, AluOp.code_ofField hy]; rfl
  | 3, _ =>
    match y, hy with
    | 1, _ =>
      cases t with
      | nil => exact answersEncoded_error _
      | cons op t => exact decodeCB_answersEncoded op
    | 0, _ => exact answersEncoded_operandMn fun _ => rfl
    | 2, _ | 3, _ | 4, _ | 5, _ | 6, _ | 7, _ => exact answersEncoded_plain rfl
  | 5, _ =>
    match y, hy with
    | 1, _ => exact answersEncoded_operandMn fun _ => rfl
    | 3, _ =>
      cases t with
      | nil => exact answersEncoded_error _
      | cons op t => exact decodeIdx_answersEncoded .ix op
    | 5, _ =>
      cases t with
      | nil => exact answersEncoded_error _
      | cons op t => exact decodeED_answersEncoded op
    | 7, _ =>
      cases t with
      | nil => exact answersEncoded_error _
      | cons op t => exact decodeIdx_answersEncoded .iy op
    | 0, _ | 2, _ | 4, _ | 6, _ => exact answersEncoded_plain rfl
  | 7, _ =>
    match y, hy with
    | 0, _ => exact answersEncoded_operandMnX (f := .ljp_x_mn) fun _ _ => rfl
    | 1, _ => exact answersEncoded_operandMnX (f := .lcall_x_mn) fun _ _ => rfl
    | 2, _ | 3, _ | 4, _ | 5, _ | 6, _ | 7, _ => exact answersEncoded_plain rfl
  | 1, _ | 4, _ => interval_cases y <;> apply_rules [answersEncoded_plain, answersEncoded_operand1]

theorem decodeFrom_answersEncoded (b : Byte) : AnswersEncoded ([b] ++ t) (decodeFrom v b t) := by
  unfold decodeFrom
  dsimp only
  generalize hy : b.toNat / 8 % 8 = y
  generalize hz : b.toNat % 8 = z
  have hy8 : y < 8 := by omega
  have hz8 : z < 8 := by omega
  split
  next hx =>
    rw [eq_opcode hx hy hz]
    exact decodeRow0_answersEncoded hy8 hz8
  next hx =>
    rw [eq_opcode hx hy hz]
    exact decodeRow1_answersEncoded hy8 hz8
  next hx =>
    rw [eq_opcode hx hy hz]
    have ho := AluOp.code_ofField hy8
    refine answersEncoded_regOr_plain hz8 (fun r hr => ?_) (fun h => ?_)
    · rw [encode_aluR, ho, hr]
    · rw [encode_aluAtHL, ho, h]
  next h0 h1 h2 =>
    rw [eq_opcode (topField_eq_three h0 h1 h2) hy hz]
    exact decodeRow3_answersEncoded hy8 hz8

end AnswersEncoded

/-- Settles O2: every part of the decoder answers what is encoded in the bytes it has read. -/
theorem encodeOfDecode : Obligations.EncodeOfDecode := by
  unfold Obligations.EncodeOfDecode
  intro v bs i rest h
  refine ⟨?_, decode_existsOn h⟩
  cases bs with
  | nil => exact nomatch h
  | cons b t => exact (decodeFrom_answersEncoded b).eq_encode i rest h

end Sys2Proof

namespace Sys2Proof

/-! ## The bytes 76, D3 and DB, and those of them that are not ALTD (30_encoding.md R128) -/

section IsPrefix

variable {i : Instr}

theorem Instr.io_of_isPrefix (hp : i.isPrefix = true) (hne : i ≠ .altd) : i = .ioi ∨ i = .ioe :=
  (Instr.isPrefix_cases hp).resolve_left hne

theorem Instr.size_of_isPrefix (h : i.isPrefix = true) : i.size = 1 := by
  obtain rfl | rfl | rfl := Instr.isPrefix_cases h <;> rfl

end IsPrefix

end Sys2Proof

namespace Sys2Proof.Machine

/-! ## ALTD, IOI and IOE, and ALTD on SP (30_encoding.md R127, R142, R144; 49_prefix_system.md R571-R573) -/

section PrefixBytes

variable {s : State} {i : Instr}

theorem exec_altd_of_free (h : s.ctx.altd = false) :
    exec .altd s = .next { s with ctx := Instr.altd.prefixContext s.ctx } := by
  show execAltd s = _
  unfold execAltd
  rw [h]
  rfl

theorem exec_altd_of_altd (h : s.ctx.altd = true) : exec .altd s = .refused .doubleALTD := by
  show execAltd s = _
  unfold execAltd
  rw [h]
  rfl

theorem ioMark_of_free (h : s.ctx.iop = none) (sp : IoSpace) :
    ioMark sp s = .next { s with ctx := { s.ctx with iop := some sp } } := by
  unfold ioMark
  rw [h]

theorem ioMark_of_iop (h : s.ctx.iop ≠ none) (sp : IoSpace) : ioMark sp s = .refused .doubleIOPrefix := by
  unfold ioMark
  split
  next hn => exact absurd hn h
  next => rfl

theorem exec_of_iop (hp : i.isPrefix = true) (hne : i ≠ .altd) (h : s.ctx.iop ≠ none) :
    exec i s = .refused .doubleIOPrefix := by
  obtain rfl | rfl := Instr.io_of_isPrefix hp hne
  · exact ioMark_of_iop h .internal
  · exact ioMark_of_iop h .external

/-- SP has no alternate. -/
theorem dstDd_sp_of_altd (h : s.ctx.altd = true) (v : Word) : s.dstDd .sp v = .refused .altdOnSP := if_pos h

end PrefixBytes

/-- Settles O7: the stops are those of ALTD, of `ioMark` and of a write to SP. -/
theorem prefixBytesAndTheirStops : Obligations.PrefixBytesAndTheirStops := by
  unfold Obligations.PrefixBytesAndTheirStops
  intro s
  refine ⟨exec_altd_of_free, exec_altd_of_altd, fun h => ⟨ioMark_of_free h .internal, ioMark_of_free h .external⟩,
    fun h => ⟨ioMark_of_iop h .internal, ioMark_of_iop h .external⟩, fun h mn => ⟨?mn, ?atMn, ?inc, ?dec⟩⟩
  case mn => exact dstDd_sp_of_altd h mn
  case atMn =>
    have kept : (s.dataRead16 mn).2.ctx = s.ctx := by rw [s.dataRead16_rest mn]
    exact dstDd_sp_of_altd (kept ▸ h) (s.dataRead16 mn).1
  case inc => exact dstDd_sp_of_altd h (s.sp + 1)
  case dec => exact dstDd_sp_of_altd h (s.sp - 1)

/-! ## The context that ALTD, IOI and IOE make (00_scope.md R11; 30_encoding.md R141, R142) -/

/-- ALTD where it is not in force, or IOI or IOE where neither is. -/
structure PrefixCtx.Admits (c : PrefixCtx) (i : Instr) : Prop where
  isPrefix : i.isPrefix = true
  free : i = .altd ∧ c.altd = false ∨ i ≠ .altd ∧ c.iop = none

/-- ALTD, then IOI or IOE, or the other order. -/
def PrefixPair (p q : Instr) : Prop := p = .altd ∧ q.isPrefix = true ∧ q ≠ .altd ∨ p ≠ .altd ∧ q = .altd

/-- The context in which a step reads its first byte. -/
def State.firstCtx (s : State) : PrefixCtx := ⟨false, none, s.pc⟩

section Context

variable {p q i : Instr}

theorem exec_of_admits {s : State} (h : s.ctx.Admits i) :
    exec i s = .next { s with ctx := i.prefixContext s.ctx } := by
  obtain ⟨hp, ⟨rfl, ha⟩ | ⟨hne, hi⟩⟩ := h
  · exact exec_altd_of_free ha
  · obtain rfl | rfl := Instr.io_of_isPrefix hp hne
    · exact ioMark_of_free hi .internal
    · exact ioMark_of_free hi .external

theorem prefixContext_iop (hp : i.isPrefix = true) (hne : i ≠ .altd) (c : PrefixCtx) :
    (i.prefixContext c).iop ≠ none := by
  obtain rfl | rfl := Instr.io_of_isPrefix hp hne <;> exact Option.some_ne_none _

/-- Only ALTD changes whether it is in force. -/
theorem prefixContext_altd (hne : i ≠ .altd) (c : PrefixCtx) : (i.prefixContext c).altd = c.altd := by
  unfold Instr.prefixContext
  split
  next => exact absurd rfl hne
  all_goals rfl

theorem prefixContext_altd_or_iop (hp : i.isPrefix = true) (c : PrefixCtx) :
    (i.prefixContext c).altd = true ∨ (i.prefixContext c).iop ≠ none := by
  obtain rfl | hne := eq_or_ne i .altd
  · exact .inl rfl
  · exact .inr (prefixContext_iop hp hne c)

theorem State.firstCtx_admits (s : State) (hp : p.isPrefix = true) : s.firstCtx.Admits p :=
  ⟨hp, (eq_or_ne p .altd).imp (⟨·, rfl⟩) (⟨·, rfl⟩)⟩

theorem PrefixPair.admits (h : PrefixPair p q) (s : State) : (p.prefixContext s.firstCtx).Admits q := by
  obtain ⟨rfl, hq, hne⟩ | ⟨hne, rfl⟩ := h
  · exact ⟨hq, .inr ⟨hne, rfl⟩⟩
  · exact ⟨rfl, .inl ⟨rfl, prefixContext_altd hne _⟩⟩

/-- Behind such a pair ALTD and an I/O space are both in force. -/
theorem PrefixPair.altd_and_iop (h : PrefixPair p q) (hp : p.isPrefix = true) (c : PrefixCtx) :
    (q.prefixContext (p.prefixContext c)).altd = true ∧ (q.prefixContext (p.prefixContext c)).iop ≠ none := by
  obtain ⟨rfl, hq, hne⟩ | ⟨hne, rfl⟩ := h
  · exact ⟨prefixContext_altd hne _, prefixContext_iop hq hne _⟩
  · exact ⟨rfl, prefixContext_iop hp hne c⟩

end Context

/-! ## ALTD, IOI and IOE and what stands behind them run as one step (30_encoding.md R127, R140-R142) -/

section RunUnit

variable {s : State} {i : Instr} {rest : List Byte} (f : UserModeRestriction) (m : Nat)

theorem runUnit_of_error {e : DecodeError} (hd : decode s.variant s.fetchBytes = .error e) :
    runUnit f m s = .refused (.undefinedOpcode e.bytes) := by
  unfold runUnit
  rw [hd]

theorem runUnit_of_refused {r : Refusal} (hd : decode s.variant s.fetchBytes = .ok (i, rest))
    (hp : i.isPrefix = true) (h : exec i (s.advance 1) = .refused r) : runUnit f m s = .refused r := by
  unfold runUnit
  rw [← Instr.size_of_isPrefix hp] at h
  cases m <;> simp only [hd, hp, h, if_true]

/-- ALTD, IOI or IOE that the context admits enters it, and the unit goes on behind it. -/
theorem runUnit_succ_of_admits (hd : decode s.variant s.fetchBytes = .ok (i, rest)) (h : s.ctx.Admits i) :
    runUnit f (m + 1) s = runUnit f m { s.advance 1 with ctx := i.prefixContext s.ctx } := by
  have run : exec i (s.advance i.size) = .next { s.advance 1 with ctx := i.prefixContext s.ctx } := by
    rw [Instr.size_of_isPrefix h.isPrefix]
    exact exec_of_admits (s := s.advance 1) h
  conv_lhs => unfold runUnit
  simp only [hd, h.isPrefix, run, if_true]

/-- Behind ALTD, IOI or IOE the Rabbit 2000 defect does not apply (70_reset_and_hazards.md R690). -/
theorem State.hitsIoBug_eq_false (h : s.ctx.altd = true ∨ s.ctx.iop ≠ none) (i : Instr) :
    s.hitsIoBug i = false := by
  unfold State.hitsIoBug
  obtain h | h := h <;> simp [h]

end RunUnit

/-! What is fetched behind `n` bytes is the same in every context, so below it is named in the idle one. -/

section Behind

variable {s : State} {c : PrefixCtx} {i : Instr} {rest : List Byte} {n m : Nat} {f : UserModeRestriction}

theorem State.behind_advance_one (s : State) (c : PrefixCtx) (n : Nat) :
    (s.behind c n).advance 1 = s.behind c (n + 1) := by
  unfold State.advance State.behind
  rw [BitVec.ofNat_add, BitVec.add_assoc]

theorem runUnit_behind_of_admits (hd : decode s.variant (s.behind PrefixCtx.idle n).fetchBytes = .ok (i, rest))
    (h : c.Admits i) : runUnit f (m + 1) (s.behind c n) = runUnit f m (s.behind (i.prefixContext c) (n + 1)) := by
  rw [runUnit_succ_of_admits (s := s.behind c n) f m hd h, s.behind_advance_one]
  rfl

/-- An instruction other than ALTD, IOI and IOE, behind one of them. -/
theorem runUnit_behind_of_isPrefix_false
    (hd : decode s.variant (s.behind PrefixCtx.idle n).fetchBytes = .ok (i, rest)) (hp : i.isPrefix = false)
    (h : c.altd = true ∨ c.iop ≠ none) : runUnit f m (s.behind c n) = stepAround f i (s.behind c n) := by
  rw [runUnit_of_isPrefix_false (s := s.behind c n) hd hp, runInstr_eq_stepAround]
  exact State.hitsIoBug_eq_false (s := s.behind c n) h i

theorem runUnit_behind_of_altd (hd : decode s.variant (s.behind PrefixCtx.idle n).fetchBytes = .ok (.altd, rest))
    (h : c.altd = true) : runUnit f m (s.behind c n) = .refused .doubleALTD :=
  runUnit_of_refused (s := s.behind c n) f m hd rfl (exec_altd_of_altd h)

theorem runUnit_behind_of_iop (hd : decode s.variant (s.behind PrefixCtx.idle n).fetchBytes = .ok (i, rest))
    (hp : i.isPrefix = true) (hne : i ≠ .altd) (h : c.iop ≠ none) :
    runUnit f m (s.behind c n) = .refused .doubleIOPrefix :=
  runUnit_of_refused (s := s.behind c n) f m hd hp (exec_of_iop hp hne h)

end Behind

section Step

variable {s : State} {p q : Instr} {r r' : List Byte}

/-- A step that begins with ALTD, IOI or IOE goes on behind it. -/
theorem State.runWith_behind_one (hn : s.noInterrupt) (hd : decode s.variant s.fetchBytes = .ok (p, r))
    (hp : p.isPrefix = true) (f : UserModeRestriction) (enter : EntrySequence) :
    s.runWith f enter = runUnit f 1 (s.behind (p.prefixContext s.firstCtx) 1) := by
  rw [State.runWith_of_noInterrupt hn]
  rw [← s.behind_zero_fetchBytes PrefixCtx.idle] at hd
  exact runUnit_behind_of_admits hd (s.firstCtx_admits hp)

/-- A step that begins with two of them, ALTD among them once, goes on behind both. -/
theorem State.runWith_behind_two (hn : s.noInterrupt) (hd : decode s.variant s.fetchBytes = .ok (p, r))
    (hp : p.isPrefix = true) (hd' : decode s.variant (s.behind PrefixCtx.idle 1).fetchBytes = .ok (q, r'))
    (h : PrefixPair p q) (f : UserModeRestriction) (enter : EntrySequence) :
    s.runWith f enter = runUnit f 0 (s.behind (q.prefixContext (p.prefixContext s.firstCtx)) 2) := by
  rw [State.runWith_behind_one hn hd hp]
  exact runUnit_behind_of_admits hd' (h.admits s)

/-- What holds on every platform holds of `step`, the platform of the restriction that the state names. -/
theorem runWith_and_step {a b : UserModeRestriction → Exec} (run : ∀ f enter, s.runWith f enter = a f)
    (h : ∀ f, a f = b f) (f : UserModeRestriction) (enter : EntrySequence) :
    s.runWith f enter = b f ∧ step s = b s.restriction :=
  ⟨(run f enter).trans (h f), (run s.restriction enterInterrupt).trans (h s.restriction)⟩

end Step

/-- Settles O6: the step goes on behind one or two of ALTD, IOI and IOE, and the next byte runs there or stops it. -/
theorem stepRunsPrefixedInstruction : Obligations.StepRunsPrefixedInstruction := by
  unfold Obligations.StepRunsPrefixedInstruction
  intro restricted enter s p i r r' hn hd hp hd'
  have one := s.runWith_behind_one hn hd hp
  refine ⟨fun hi => ?run, fun ⟨altd, altd'⟩ => ?altd, fun ⟨io, hi, io'⟩ => ?io, fun pair j r'' hd'' => ?two⟩
  case run =>
    exact runWith_and_step one (fun _ => runUnit_behind_of_isPrefix_false hd' hi (prefixContext_altd_or_iop hp _)) _ _
  case altd =>
    subst altd altd'
    exact runWith_and_step one (fun _ => runUnit_behind_of_altd hd' rfl) _ _
  case io => exact runWith_and_step one (fun _ => runUnit_behind_of_iop hd' hi io' (prefixContext_iop hp io _)) _ _
  case two =>
    have two := s.runWith_behind_two hn hd hp hd' pair
    obtain ⟨altd, iop⟩ := PrefixPair.altd_and_iop pair hp s.firstCtx
    refine ⟨fun hj => ?run, fun hj => ?altd, fun ⟨hj, io⟩ => ?io⟩
    case run => exact runWith_and_step two (fun _ => runUnit_behind_of_isPrefix_false hd'' hj (.inl altd)) _ _
    case altd =>
      subst hj
      exact runWith_and_step two (fun _ => runUnit_behind_of_altd hd'' altd) _ _
    case io => exact runWith_and_step two (fun _ => runUnit_behind_of_iop hd'' hj io iop) _ _

/-- Settles O4: the unit stops where it decodes, at PC or behind one or two of ALTD, IOI and IOE. -/
theorem undefinedBytesStop : Obligations.UndefinedBytesStop := by
  unfold Obligations.UndefinedBytesStop
  intro restricted enter s hn
  refine ⟨fun e hd => ?atPc, fun p r hd hp => ⟨fun e hd' => ?behindOne, fun q r' hd' pair e hd'' => ?behindTwo⟩⟩
  case atPc =>
    rw [← s.behind_zero_fetchBytes s.firstCtx] at hd
    exact runWith_and_step (State.runWith_of_noInterrupt hn) (fun f => runUnit_of_error f 2 hd) _ _
  case behindOne =>
    exact runWith_and_step (s.runWith_behind_one hn hd hp) (fun f => runUnit_of_error f 1 hd') _ _
  case behindTwo =>
    exact runWith_and_step (s.runWith_behind_two hn hd hp hd' pair) (fun f => runUnit_of_error f 0 hd'') _ _

end Sys2Proof.Machine

namespace Sys2Proof.Machine

/-! ## 8-bit loads and stores (40_ld8.md R201-R223) -/

section Load8

variable {s : State} {i : Instr}

/-- A write of `r` and nothing else: the destination bank holds the byte, the rest is kept. -/
theorem exists_next_dst8 {r : Reg8} {v : Byte} (h : exec i s = .next (s.dst8 r v)) :
    ∃ t, exec i s = .next t ∧ (t.destBank s.ctx.altd).get r = v ∧ WritesRegs [r] s t :=
  ⟨_, h, s.dst8_get r v, s.dst8_writes r v⟩

/-- A data read leaves the prefix context. -/
theorem State.dataRead8_ctx (s : State) (a : Word) : (s.dataRead8 a).2.ctx = s.ctx := by rw [s.dataRead8_rest a]

/-- A data read and the write of its byte to `r`, in the bank that ALTD selected before the read. -/
theorem loadsByte_of_loadR {r : Reg8} {a : Word} (h : exec i s = loadR r a s) : LoadsByte i r a s := by
  have taken := (s.dataRead8 a).2.dst8_get r (s.dataRead8 a).1
  rw [s.dataRead8_ctx a] at taken
  exact ⟨_, _, _, h, s.dataRead8_reads a, taken, (s.dataRead8 a).2.dst8_writes r _⟩

/-- A data write and nothing else. -/
theorem storesOnly_of_dataWrite8 {a : Word} {v : Byte} (h : exec i s = .next (s.dataWrite8 a v)) :
    StoresOnly i a v s := ⟨_, h, s.dataWrite8_stores a v⟩

/-- The flags of LD A,EIR and LD A,IIR: S and Z of the value, L/V and C as they were. -/
theorem loadFlags_flagsAre (f : Flags) (v : Byte) (free : BitVec 4) :
    FlagsAre (f.update (loadFlags v) free) (128 ≤ v.toNat) (v.toNat = 0) (f.lv = true) (f.c = true) where
  s := by simp [loadFlags, BitVec.msb_eq_decide]
  z := by simp [loadFlags, ← BitVec.toNat_inj]
  lv := Iff.rfl
  c := Iff.rfl

/-- A write of A, then of S and Z by its value. -/
theorem exists_next_loadFlags {v : Byte} (h : exec i s = .next ((s.dst8 .a v).setFlags (loadFlags v))) :
    ∃ t, exec i s = .next t ∧ (t.destBank s.ctx.altd).a = v ∧ WritesRegsFlags [.a] s t ∧
      FlagsAre (t.destFlags s.ctx.altd) (128 ≤ v.toNat) (v.toNat = 0) ((s.destFlags s.ctx.altd).lv = true)
        ((s.destFlags s.ctx.altd).c = true) := by
  have written := s.dst8_writes .a v
  refine ⟨_, h, ?a, written.setFlags (loadFlags v), ?flags⟩
  case a => exact (written.setFlags_get (loadFlags v) .a).trans (s.dst8_get .a v)
  case flags =>
    rw [written.setFlags_flags]
    exact loadFlags_flagsAre _ v _

end Load8

/-- Settles O22: each load is the write of its source to the destination register. -/
theorem registerLoads8 : Obligations.RegisterLoads8 := by
  unfold Obligations.RegisterLoads8
  intro r s
  exact ⟨fun g => exists_next_dst8 (exec_ldRG s r g), fun n => exists_next_dst8 (exec_ldRN s r n)⟩

/-- Settles O23: each load is `loadR` of its register and address. -/
theorem memoryLoads8 : Obligations.MemoryLoads8 := by
  unfold Obligations.MemoryLoads8
  intro s
  exact ⟨fun r => loadsByte_of_loadR (exec_ldRAtHL s r), fun x r d => loadsByte_of_loadR (exec_ldRAtIdx s x r d),
    loadsByte_of_loadR rfl, loadsByte_of_loadR rfl, fun _ => loadsByte_of_loadR rfl⟩

/-- Settles O24: each store is one data write. -/
theorem memoryStores8 : Obligations.MemoryStores8 := by
  unfold Obligations.MemoryStores8
  intro s
  refine ⟨fun r => ?hlR, fun n => ?hlN, fun x r d => ?idxR, fun x d n => ?idxN, ?bc, ?de, fun mn => ?mn⟩
  case hlR => exact storesOnly_of_dataWrite8 (exec_ldAtHLR s r)
  case idxR => exact storesOnly_of_dataWrite8 (exec_ldAtIdxR s x r d)
  case idxN => exact storesOnly_of_dataWrite8 (exec_ldAtIdxN s x d n)
  case hlN | bc | de | mn => exact storesOnly_of_dataWrite8 rfl

/-- Settles O25: A takes EIR or IIR, then S and Z by it, or takes XPC behind the deferral; the three take main A. -/
theorem specialRegisterLoads : Obligations.SpecialRegisterLoads := by
  unfold Obligations.SpecialRegisterLoads
  intro s
  refine ⟨fun i v source => ?fromInterruptRegister, rfl, rfl, ?fromXpc, rfl⟩
  case fromInterruptRegister =>
    obtain ⟨rfl, rfl⟩ | ⟨rfl, rfl⟩ := source
    · exact exists_next_loadFlags rfl
    · exact exists_next_loadFlags rfl
  case fromXpc => exact ⟨_, rfl, s.privileged.dst8_get .a s.xpc, s.privileged.dst8_writes .a s.xpc⟩

end Sys2Proof.Machine

namespace Sys2Proof

/-- The bytes of an instruction, with none behind them, decode to it on a chip that has it. -/
theorem decode_of_encode_eq {v : Variant} {i : Instr} {bs : List Byte} (hi : i.existsOn v = true) (h : encode i = bs) :
    decode v bs = .ok (i, []) := by
  rw [← h, ← (encode i).append_nil]
  exact decode_encode hi

/-- Settles O3: each word is the encoding of its instruction, which the chip has. -/
theorem specWordsDecode : Obligations.SpecWordsDecode := by
  unfold Obligations.SpecWordsDecode
  and_intros
  all_goals exact decode_of_encode_eq rfl rfl

end Sys2Proof

namespace Sys2Proof.Machine

/-! ## 16-bit loads and stores (41_ld16.md R241-R284) -/

section Load16

variable {s : State} {i : Instr}

/-- A destination dd that is a pair is written whatever ALTD says. -/
theorem dstDd_dd (s : State) (p : Pair) (v : Word) : s.dstDd p.dd v = .next (s.dst16 p v) := by cases p <;> rfl

/-- A destination dd that is SP is written without ALTD. -/
theorem dstDd_sp_of_not_altd (h : s.ctx.altd = false) (v : Word) : s.dstDd .sp v = .next { s with sp := v } :=
  if_neg (by simp [h])

/-- A data read of a word leaves the prefix context. -/
theorem State.dataRead16_ctx (s : State) (a : Word) : (s.dataRead16 a).2.ctx = s.ctx := by rw [s.dataRead16_rest a]

/-- A write of the pair `p` and nothing else: the destination bank holds the word, the rest is kept. -/
theorem exists_next_dst16 {p : Pair} {v : Word} (h : exec i s = .next (s.dst16 p v)) :
    ∃ t, exec i s = .next t ∧ (t.destBank s.ctx.altd).pair p = v ∧ WritesRegs p.regs s t :=
  ⟨_, h, s.dst16_pair p v, s.dst16_writes p v⟩

/-- A write of the index register `x` and nothing else. -/
theorem exists_next_setIdx {x : Idx} {v : Word} (h : exec i s = .next (s.setIdx x v)) :
    ∃ t, exec i s = .next t ∧ t.idx x = v ∧ WritesIdx x s t :=
  ⟨_, h, s.setIdx_idx x v, s.setIdx_writes x v⟩

/-- A write of a pair of the alternate bank, whatever ALTD says. -/
theorem exists_next_ldAlt {p : Pair} {v : Word} (h : exec i s = ldAlt p v s) :
    ∃ t, exec i s = .next t ∧ t.alt.pair p = v ∧ t = { s with alt := t.alt } ∧ t.alt.f = s.alt.f ∧
      ∀ q, q ∉ p.regs → t.alt.get q = s.alt.get q :=
  ⟨_, h, s.alt.pair_setPair_same p v, rfl, s.alt.setPair_f p v, fun _ hq => s.alt.get_setPair_ne hq v⟩

/-- A data read of a word and its write to the pair `p`, in the bank that ALTD selected before the read. -/
theorem loadsWord_of_dst16 {p : Pair} {a : Word}
    (h : exec i s = .next ((s.dataRead16 a).2.dst16 p (s.dataRead16 a).1)) :
    ∃ v u t, exec i s = .next t ∧ ReadsWord s u a v ∧ (t.destBank s.ctx.altd).pair p = v ∧ WritesRegs p.regs u t := by
  have taken := (s.dataRead16 a).2.dst16_pair p (s.dataRead16 a).1
  rw [s.dataRead16_ctx a] at taken
  exact ⟨_, _, _, h, s.dataRead16_reads a, taken, (s.dataRead16 a).2.dst16_writes p _⟩

/-- LD dd,(mn) to a pair. -/
theorem exec_ldDdAtMn_dd (s : State) (p : Pair) (mn : Word) :
    exec (Form.ldDdAtMn p.dd mn) s = .next ((s.dataRead16 mn).2.dst16 p (s.dataRead16 mn).1) :=
  (exec_ldDdAtMn s p.dd mn).trans (dstDd_dd _ p _)

/-- LD SP,(mn) without ALTD. -/
theorem exec_ldDdAtMn_sp (h : s.ctx.altd = false) (mn : Word) :
    exec (Form.ldDdAtMn .sp mn) s = .next { (s.dataRead16 mn).2 with sp := (s.dataRead16 mn).1 } :=
  (exec_ldDdAtMn s .sp mn).trans (dstDd_sp_of_not_altd (by rw [s.dataRead16_ctx mn, h]) _)

/-- A data write of a word and nothing else. -/
theorem storesOnlyWord_of_dataWrite16 {a v : Word} (h : exec i s = .next (s.dataWrite16 a v)) :
    StoresOnlyWord i a v s := ⟨_, h, s.dataWrite16_stores a v⟩

end Load16

/-- Settles O26: each load is the write of its source to a pair, to an index register or to SP. -/
theorem registerLoads16 : Obligations.RegisterLoads16 := by
  unfold Obligations.RegisterLoads16
  intro s
  refine ⟨fun p mn => exists_next_dst16 ((exec_ldDdMn s p.dd mn).trans (dstDd_dd s p mn)),
    fun h mn => (exec_ldDdMn s .sp mn).trans (dstDd_sp_of_not_altd h mn),
    fun x mn => exists_next_setIdx (exec_ldIdxMn s x mn), fun x => exists_next_dst16 (exec_ldHLIdx s x),
    fun x => exists_next_setIdx (exec_ldIdxHL s x), rfl, exec_ldSPIdx s, fun p i v source => ?alternate⟩
  case alternate =>
    obtain ⟨rfl, rfl⟩ | ⟨rfl, rfl⟩ := source
    · exact exists_next_ldAlt (exec_ldAltBC s p)
    · exact exists_next_ldAlt (exec_ldAltDE s p)

/-- Settles O27: a data read, or a read of memory for (SP+n), and the write of its word to the destination. -/
theorem memoryLoads16 : Obligations.MemoryLoads16 := by
  unfold Obligations.MemoryLoads16
  intro s
  refine ⟨fun p i a operand => ?pair, fun h mn => ⟨_, _, exec_ldDdAtMn_sp h mn, s.dataRead16_reads mn⟩,
    fun x mn => ?idx, fun n => ?hlAtSp, fun x n => ?idxAtSp⟩
  case pair =>
    obtain ⟨mn, rfl, rfl⟩ | ⟨rfl, ⟨mn, rfl, rfl⟩ | ⟨d, rfl, rfl⟩ | ⟨x, d, rfl, rfl⟩⟩ := operand
    · exact loadsWord_of_dst16 (exec_ldDdAtMn_dd s p _)
    · exact loadsWord_of_dst16 rfl
    · exact loadsWord_of_dst16 rfl
    · exact loadsWord_of_dst16 (exec_ldHLAtIdx s x d)
  case idx =>
    exact ⟨_, _, _, exec_ldIdxAtMn s x mn, s.dataRead16_reads mn, State.setIdx_idx _ x _, State.setIdx_writes _ x _⟩
  case hlAtSp =>
    rw [← memRead16_toNat]
    exact ⟨_, rfl, congrArg BitVec.toNat (s.dst16_pair .hl _), s.dst16_writes .hl _⟩
  case idxAtSp =>
    rw [← memRead16_toNat]
    exact ⟨_, exec_ldIdxAtSP s x n, congrArg BitVec.toNat (s.setIdx_idx x _), s.setIdx_writes x _⟩

/-- Settles O28: each store is one data write of a word, and at (SP+n) one write to memory. -/
theorem memoryStores16 : Obligations.MemoryStores16 := by
  unfold Obligations.MemoryStores16
  intro s
  exact ⟨fun _ => storesOnlyWord_of_dataWrite16 rfl, fun r mn => storesOnlyWord_of_dataWrite16 (exec_ldAtMnSs s r mn),
    fun x mn => storesOnlyWord_of_dataWrite16 (exec_ldAtMnIdx s x mn), fun _ => storesOnlyWord_of_dataWrite16 rfl,
    fun x d => storesOnlyWord_of_dataWrite16 (exec_ldAtIdxHL s x d), fun _ => ⟨_, rfl, s.memWrite16_stores _ _⟩,
    fun x n => ⟨_, exec_ldAtSPIdx s x n, s.memWrite16_stores _ _⟩⟩

/-! ## LDP (20_memory.md R92, R93; 41_ld16.md R273-R284) -/

section Ldp

variable (s : State)

/-- The word LDP loads is the one at its two physical addresses. -/
theorem State.physRead16_toNat (a : Word) : (s.physRead16 s.main.a a).toNat = s.ldpWord a := by
  rw [State.physRead16, mkWord_toNat, physOf_eq_ldpAddr, physOf_eq_ldpAddr, State.ldpWord]

/-- LDP stores the low byte, then the high byte. -/
theorem State.physWrite16_eq (a v : Word) : s.physWrite16 s.main.a a v =
    (s.physWrite (s.ldpAddr a) (loByte v)).physWrite (s.ldpAddr (a + 1)) (hiByte v) := by
  rw [State.physWrite16, physOf_eq_ldpAddr, physOf_eq_ldpAddr]

theorem State.physRead_physWrite16_low (a v : Word) :
    (s.physWrite16 s.main.a a v).physRead (s.ldpAddr a) = loByte v := by
  rw [s.physWrite16_eq, State.physRead_physWrite_ne _ (ldpAddr_succ_ne s a).symm, State.physRead_physWrite_same]

theorem State.physRead_physWrite16_high (a v : Word) :
    (s.physWrite16 s.main.a a v).physRead (s.ldpAddr (a + 1)) = hiByte v := by
  rw [s.physWrite16_eq, State.physRead_physWrite_same]

theorem State.physWrite16_sameMemOutside (a v : Word) :
    SameMemOutside [s.ldpAddr a, s.ldpAddr (a + 1)] s (s.physWrite16 s.main.a a v) := by
  intro pa h
  obtain ⟨low, high⟩ : pa ≠ s.ldpAddr a ∧ pa ≠ s.ldpAddr (a + 1) := by simpa using h
  rw [s.physWrite16_eq, State.physRead_physWrite_ne _ high, State.physRead_physWrite_ne _ low]

end Ldp

/-- Settles O29: a store is one write of a word at the two physical addresses, a load the write of the word there to
main HL or to an index register. -/
theorem ldpTransfers : Obligations.LdpTransfers := by
  unfold Obligations.LdpTransfers
  refine ⟨fun s i a v operands => ?store, fun s a => ⟨fun i source => ?loadHL, fun x => ?loadIdx⟩⟩
  case store =>
    have stored : exec i s = .next (s.physWrite16 s.main.a a v) := by
      obtain ⟨rfl, rfl, rfl⟩ | ⟨x, rfl, rfl, rfl⟩ | ⟨rfl, rfl⟩ | ⟨x, rfl, rfl⟩ := operands
      · rfl
      · exact exec_ldpAtIdxHL s x
      · rfl
      · exact exec_ldpAtMnIdx s x a
    rw [← loByte_eq, ← hiByte_eq]
    exact ⟨_, stored, s.physRead_physWrite16_low a v, s.physRead_physWrite16_high a v, rfl,
      s.physWrite16_sameMemOutside a v⟩
  case loadHL =>
    have loaded : exec i s = .next (s.setMainPair .hl (s.physRead16 s.main.a a)) := by
      obtain ⟨rfl, rfl⟩ | ⟨x, rfl, rfl⟩ | rfl := source
      · rfl
      · exact exec_ldpHLAtIdx s x
      · rfl
    rw [← s.physRead16_toNat]
    exact ⟨_, loaded, congrArg BitVec.toNat (s.main.pair_setPair_same .hl _), rfl, fun _ => rfl,
      s.main.setPair_f .hl _, fun _ hq => s.main.get_setPair_ne (p := .hl) hq _⟩
  case loadIdx =>
    rw [← s.physRead16_toNat]
    exact ⟨_, exec_ldpIdxAtMn s x a, congrArg BitVec.toNat (s.setIdx_idx x _), s.setIdx_writes x _⟩

end Sys2Proof.Machine

namespace Sys2Proof.Machine

/-! ## One-byte pushes and pops (42_stack_exchange.md R304, R305, R309, R310) -/

/-- Settles O31: a one-byte push is one write below SP and the move of SP, a pop takes the byte at SP. -/
theorem oneByteStack : Obligations.OneByteStack := by
  unfold Obligations.OneByteStack
  intro s
  refine ⟨?pushIP, ?pushSU, rfl, rfl⟩
  case pushIP => exact ⟨s.memWrite8 (s.sp - 1) s.ip, rfl, s.memWrite8_stores _ _⟩
  case pushSU => exact ⟨s.memWrite8 (s.sp - 1) s.su, rfl, s.memWrite8_stores _ _⟩

/-! ## Exchanges of registers (42_stack_exchange.md R311-R314) -/

section RegisterExchanges

/-- A write of A and F leaves the other registers of the bank. -/
theorem Bank.get_setAF_ne (k : Bank) {q : Reg8} (h : q ≠ .a) (a : Byte) (f : Flags) :
    { k with a := a, f := f }.get q = k.get q := by
  cases q with
  | a => exact absurd rfl h
  | b | c | d | e | h | l => rfl

theorem Bank.pair_hl_setPair_de (k : Bank) (v : Word) : (k.setPair .de v).pair .hl = k.pair .hl := rfl

theorem Bank.pair_de_setPair_hl (k : Bank) (v : Word) : (k.setPair .hl v).pair .de = k.pair .de := rfl

/-- What is none of D, E, H and L is in neither DE nor HL. -/
theorem not_mem_regs_de_hl {q : Reg8} (h : q ∉ [Reg8.d, .e, .h, .l]) : q ∉ Pair.de.regs ∧ q ∉ Pair.hl.regs :=
  not_or.mp (mt List.mem_append.mpr h)

/-- DE written before HL keeps its word. -/
theorem Bank.pair_de_setPair_both (k : Bank) (v w : Word) : ((k.setPair .de v).setPair .hl w).pair .de = v :=
  ((k.setPair .de v).pair_de_setPair_hl w).trans (k.pair_setPair_same .de v)

/-- DE and HL written leave the registers that are in neither. -/
theorem Bank.get_setPair_both_ne (k : Bank) {q : Reg8} (h : q ∉ [Reg8.d, .e, .h, .l]) (v w : Word) :
    ((k.setPair .de v).setPair .hl w).get q = k.get q :=
  have ⟨de, hl⟩ := not_mem_regs_de_hl h
  ((k.setPair .de v).get_setPair_ne hl w).trans (k.get_setPair_ne de v)

variable {s : State}

/-! Where DE or DE' and the HL that ALTD selects are of two banks, each bank takes one write; else one takes both. -/

theorem exec_ex_DE_HL_of_altd (h : s.ctx.altd = true) : exec .ex_DE_HL s = .next
    { s with main := s.main.setPair .de (s.alt.pair .hl), alt := s.alt.setPair .hl s.de } := if_pos h

theorem exec_ex_DE_HL_of_not_altd (h : s.ctx.altd = false) : exec .ex_DE_HL s = .next
    { s with main := (s.main.setPair .de s.hl).setPair .hl s.de } := if_neg (by simp [h])

theorem exec_ex_DE'_HL_of_altd (h : s.ctx.altd = true) : exec .ex_DE'_HL s = .next
    { s with alt := (s.alt.setPair .de (s.alt.pair .hl)).setPair .hl (s.alt.pair .de) } := if_pos h

theorem exec_ex_DE'_HL_of_not_altd (h : s.ctx.altd = false) : exec .ex_DE'_HL s = .next
    { s with alt := s.alt.setPair .de s.hl, main := s.main.setPair .hl (s.alt.pair .de) } := if_neg (by simp [h])

end RegisterExchanges

/-- Settles O32: EX AF,AF' and EXX cross the banks at A and F; the other two cross them where DE and the HL that ALTD
selects are of different banks, and else stay in one. -/
theorem registerExchanges : Obligations.RegisterExchanges := by
  unfold Obligations.RegisterExchanges
  intro s
  refine ⟨?exAF, ?exx, ?exDE, ?exDE'⟩
  case exAF =>
    exact ⟨_, rfl, rfl, rfl, rfl, rfl, rfl, fun _ hq => ⟨s.main.get_setAF_ne hq _ _, s.alt.get_setAF_ne hq _ _⟩⟩
  case exx =>
    exact ⟨_, rfl, rfl, rfl, rfl, rfl, rfl, fun _ hq => ⟨s.alt.get_setAF_ne hq _ _, s.main.get_setAF_ne hq _ _⟩⟩
  case exDE =>
    cases ha : s.ctx.altd with
    | true =>
      refine ⟨_, exec_ex_DE_HL_of_altd ha, rfl, s.main.pair_setPair_same .de _, s.alt.pair_setPair_same .hl _,
        fun _ => ⟨s.main.pair_hl_setPair_de _, s.alt.pair_de_setPair_hl _⟩, nofun, s.main.setPair_f .de _,
        s.alt.setPair_f .hl _, fun q hq => ?_⟩
      obtain ⟨de, hl⟩ := not_mem_regs_de_hl hq
      exact ⟨s.main.get_setPair_ne de _, s.alt.get_setPair_ne hl _⟩
    | false =>
      exact ⟨_, exec_ex_DE_HL_of_not_altd ha, rfl, s.main.pair_de_setPair_both _ _, Bank.pair_setPair_same _ .hl _,
        nofun, fun _ => rfl, rfl, rfl, fun _ hq => ⟨s.main.get_setPair_both_ne hq _ _, rfl⟩⟩
  case exDE' =>
    cases ha : s.ctx.altd with
    | true =>
      exact ⟨_, exec_ex_DE'_HL_of_altd ha, rfl, s.alt.pair_de_setPair_both _ _, Bank.pair_setPair_same _ .hl _,
        fun _ => rfl, nofun, rfl, rfl, fun _ hq => ⟨rfl, s.alt.get_setPair_both_ne hq _ _⟩⟩
    | false =>
      refine ⟨_, exec_ex_DE'_HL_of_not_altd ha, rfl, s.alt.pair_setPair_same .de _, s.main.pair_setPair_same .hl _,
        nofun, fun _ => ⟨s.main.pair_de_setPair_hl _, s.alt.pair_hl_setPair_de _⟩, s.main.setPair_f .hl _,
        s.alt.setPair_f .de _, fun q hq => ?_⟩
      obtain ⟨de, hl⟩ := not_mem_regs_de_hl hq
      exact ⟨s.main.get_setPair_ne hl _, s.alt.get_setPair_ne de _⟩

/-! ## Exchanges with the top of the stack (42_stack_exchange.md R315-R317) -/

/-- Settles O33: each is one write of a word at SP, then the write of the word that stood there to the register. -/
theorem stackExchanges : Obligations.StackExchanges := by
  unfold Obligations.StackExchanges
  intro s
  rw [← s.top16_toNat]
  refine ⟨?hl, fun x => ?idx⟩
  case hl =>
    have taken := (s.memWrite16 s.sp s.hl).dst16_pair .hl s.top16
    exact ⟨_, _, rfl, s.memWrite16_stores s.sp s.hl, congrArg BitVec.toNat taken, State.dst16_writes _ .hl s.top16⟩
  case idx =>
    exact ⟨_, _, exec_exAtSPIdx s x, s.memWrite16_stores s.sp (s.idx x),
      congrArg BitVec.toNat (State.setIdx_idx _ x s.top16), State.setIdx_writes _ x s.top16⟩

end Sys2Proof.Machine

namespace Sys2Proof.Machine

/-! ## 8-bit arithmetic and logic (43_alu8.md R340-R394) -/

/-! ### V as a signed sum or difference out of range, at every width (10_state.md R38) -/

section Overflow

variable {w : Nat}

/-- A number less than one turn outside the signed range of `w + 1` bits comes back by one turn. -/
theorem bmod_cases {n : Int} (low : -(3 * 2 ^ w) ≤ n) (high : n < 3 * 2 ^ w) :
    n < -2 ^ w ∧ n.bmod (2 ^ (w + 1)) = n + 2 * 2 ^ w ∨ -2 ^ w ≤ n ∧ n < 2 ^ w ∧ n.bmod (2 ^ (w + 1)) = n ∨
      2 ^ w ≤ n ∧ n.bmod (2 ^ (w + 1)) = n - 2 * 2 ^ w := by
  have turn : ((2 ^ (w + 1) : Nat) : Int) = 2 * 2 ^ w := by simp [pow_succ, mul_comm]
  have inside {m : Int} (h : -2 ^ w ≤ m) (h' : m < 2 ^ w) : m.bmod (2 ^ (w + 1)) = m :=
    Int.bmod_eq_of_le (by omega) (by omega)
  rcases lt_or_ge n (-2 ^ w) with below | notBelow
  · refine .inl ⟨below, ?_⟩
    rw [← Int.add_bmod_right, turn, inside (by omega) (by omega)]
  · rcases lt_or_ge n (2 ^ w) with within | above
    · exact .inr (.inl ⟨notBelow, within, inside notBelow within⟩)
    · refine .inr (.inr ⟨above, ?_⟩)
      rw [← Int.sub_bmod_right, turn, inside (by omega) (by omega)]

theorem carry_range (c : Bool) : 0 ≤ c.toInt ∧ c.toInt ≤ 1 := by cases c <;> decide

theorem carry_toNat_eq_toInt (c : Bool) : (c.toNat : Int) = c.toInt := by cases c <;> rfl

theorem toInt_range (a : BitVec (w + 1)) : -2 ^ w ≤ a.toInt ∧ a.toInt < 2 ^ w := ⟨a.le_toInt, a.toInt_lt⟩

variable (a b : BitVec (w + 1)) (c : Bool)

theorem ofNat_sum_toInt : (BitVec.ofNat (w + 1) (a.toNat + b.toNat + c.toNat)).toInt =
    (a.toInt + b.toInt + c.toInt).bmod (2 ^ (w + 1)) := by
  rw [BitVec.toInt_ofNat', a.toInt_eq_toNat_bmod, b.toInt_eq_toNat_bmod, Int.add_assoc, Int.bmod_add_bmod,
    Int.add_left_comm, Int.bmod_add_bmod, ← carry_toNat_eq_toInt]
  push_cast
  rw [Int.add_left_comm, Int.add_assoc]

theorem ofInt_difference_toInt : (BitVec.ofInt (w + 1) ((a.toNat : Int) - b.toNat - c.toNat)).toInt =
    (a.toInt - b.toInt - c.toInt).bmod (2 ^ (w + 1)) := by
  rw [BitVec.toInt_ofInt, a.toInt_eq_toNat_bmod, b.toInt_eq_toNat_bmod, carry_toNat_eq_toInt,
    sub_right_comm (Int.bmod _ _), Int.sub_bmod_bmod, Int.sub_sub (Int.bmod _ _), Int.bmod_sub_bmod, ← Int.sub_sub,
    sub_right_comm]

/-- V of a sum: operands of one sign and a result of the other. -/
theorem addOverflow_iff :
    (a.msb == b.msb && (BitVec.ofNat (w + 1) (a.toNat + b.toNat + c.toNat)).msb != a.msb) = true ↔
      a.toInt + b.toInt + c.toInt < -2 ^ w ∨ 2 ^ w ≤ a.toInt + b.toInt + c.toInt := by
  have ha := toInt_range a
  have hb := toInt_range b
  have hc := carry_range c
  have turn := bmod_cases (w := w) (n := a.toInt + b.toInt + c.toInt) (by omega) (by omega)
  simp only [Bool.and_eq_true, beq_iff_eq, bne_iff_ne, ne_eq, BitVec.msb_eq_toInt, decide_eq_decide, ofNat_sum_toInt]
  omega

/-- V of a difference: operands of two signs and a result that has not the first one's. -/
theorem subOverflow_iff :
    (a.msb != b.msb && (BitVec.ofInt (w + 1) ((a.toNat : Int) - b.toNat - c.toNat)).msb != a.msb) = true ↔
      a.toInt - b.toInt - c.toInt < -2 ^ w ∨ 2 ^ w ≤ a.toInt - b.toInt - c.toInt := by
  have ha := toInt_range a
  have hb := toInt_range b
  have hc := carry_range c
  have turn := bmod_cases (w := w) (n := a.toInt - b.toInt - c.toInt) (by omega) (by omega)
  simp only [Bool.and_eq_true, bne_iff_ne, ne_eq, BitVec.msb_eq_toInt, decide_eq_decide, ofInt_difference_toInt]
  omega

end Overflow

/-! ### ADD8, SUB8 and LOGIC8 (43_alu8.md R340-R342) -/

section Helpers8

variable (a b r : Byte) (c : Bool)

theorem add8_toNat : (add8 a b c).1.toNat = (a.toNat + b.toNat + c.toNat) % 256 := BitVec.toNat_ofNat _ _

/-- V of ADD8 by the signed sum. -/
theorem add8_overflow_iff : (a.msb == b.msb && (add8 a b c).1.msb != a.msb) = true ↔
    a.toInt + b.toInt + c.toInt < -128 ∨ 127 < a.toInt + b.toInt + c.toInt := addOverflow_iff a b c

theorem sub8_toInt : ((sub8 a b c).1.toNat : Int) = ((a.toNat : Int) - b.toNat - c.toNat) % 256 := by
  show (((BitVec.ofInt 8 _).toNat : Nat) : Int) = _
  rw [BitVec.toNat_ofInt, Int.toNat_of_nonneg (Int.emod_nonneg _ (by decide))]
  rfl

theorem sub8_toNat : (sub8 a b c).1.toNat = diff8 a b c := by
  have := sub8_toInt a b c
  have := a.isLt
  have := b.isLt
  have := c.toNat_le
  unfold diff8
  omega

/-- V of SUB8 by the signed difference. -/
theorem sub8_overflow_iff : (a.msb != b.msb && (sub8 a b c).1.msb != a.msb) = true ↔
    a.toInt - b.toInt - c.toInt < -128 ∨ 127 < a.toInt - b.toInt - c.toInt := subOverflow_iff a b c

/-- The logical check by the bits of the result. -/
theorem logical8_iff_bit : logical8 r = true ↔ ∃ k, 4 ≤ k ∧ k ≤ 7 ∧ r.getLsbD k = true := by
  rw [logical8_iff]
  constructor
  · intro high
    obtain ⟨k, hk, bit⟩ := Nat.exists_ge_and_testBit_of_ge_two_pow (n := 4) high
    rw [BitVec.testBit_toNat] at bit
    exact ⟨k, hk, Nat.le_of_lt_succ (BitVec.lt_of_getLsbD bit), bit⟩
  · rintro ⟨k, hk, -, bit⟩
    rw [← BitVec.testBit_toNat] at bit
    exact (Nat.pow_le_pow_right (by decide) hk).trans (Nat.ge_two_pow_of_testBit bit)

variable (f : Flags) (free : BitVec 4)

theorem add8_sumFlags : SumFlags8 (f.update (add8 a b c).2 free) a b c where
  s := by rw [← add8_toNat]; exact msb8_iff _
  z := by rw [← add8_toNat]; exact zero8_iff _
  lv := add8_overflow_iff a b c
  c := decide_eq_true_iff

theorem sub8_diffFlags : DiffFlags8 (f.update (sub8 a b c).2 free) a b c where
  s := by rw [← sub8_toNat]; exact msb8_iff _
  z := by rw [← sub8_toNat]; exact zero8_iff _
  lv := sub8_overflow_iff a b c
  c := by
    show decide ((a.toNat : Int) - b.toNat - c.toNat < 0) = true ↔ _
    rw [decide_eq_true_iff]
    omega

theorem logic8_logicFlags : LogicFlags8 (f.update (logic8 r).2 free) r False where
  s := msb8_iff r
  z := zero8_iff r
  lv := logical8_iff r
  c := Bool.false_eq_true.to_iff

/-- AND, XOR and OR are LOGIC8 of the operation on bits. -/
theorem alu8_and : alu8 .and a b c = logic8 (a &&& b) := rfl

theorem alu8_xor : alu8 .xor a b c = logic8 (a ^^^ b) := rfl

theorem alu8_or : alu8 .or a b c = logic8 (a ||| b) := rfl

end Helpers8

/-- Settles O15: V of SUB8 by signs and by the signed difference, the logical check bit by bit; AND, XOR and OR by their
equations. -/
theorem helpers8Compute : Obligations.Helpers8Compute := by
  unfold Obligations.Helpers8Compute
  refine ⟨fun a b c => ⟨_, _, _, _, rfl, sub8_toInt a b c, rfl, beq_iff_eq, ?signs, sub8_overflow_iff a b c,
    decide_eq_true_iff⟩, fun r => ⟨_, _, _, rfl, rfl, rfl, beq_iff_eq, logical8_iff_bit r, fun a x c => ?logic⟩⟩
  case signs => simp [BitVec.msb_eq_getLsbD_last, sub8]
  case logic => exact ⟨fun h => h ▸ alu8_and a x c, fun h => h ▸ alu8_xor a x c, fun h => h ▸ alu8_or a x c⟩

/-! ### Operations on A (43_alu8.md R343-R382) -/

section AluA

variable {s : State}

/-- What a data access leaves alone: ALTD, main, and so the flags of the destination bank. -/
theorem State.dest_of_core {u : State} (h : u.core = s.core) :
    u.ctx.altd = s.ctx.altd ∧ u.main = s.main ∧ u.destFlags s.ctx.altd = s.destFlags s.ctx.altd := by
  obtain ⟨-, altd, main, alt⟩ := by simpa only [State.core, Prod.mk.injEq] using h
  exact ⟨altd, main, by rw [State.destFlags, State.destBank, main, alt, State.destFlags, State.destBank]⟩

/-- The four operand forms run `aluA` on the operand, behind the read of it. -/
theorem aluForms_of_aluA {op : AluOp} {P : Byte → State → State → Prop}
    (h : ∀ x u, u.ctx.altd = s.ctx.altd → u.main = s.main → P x u (aluA op x u)) : AluForms op s P := by
  have mem {i : Instr} {a : Word} (hi : exec i s = aluMem op a s) : RunsOn i a s P := by
    obtain ⟨altd, main, -⟩ := State.dest_of_core (s.dataRead8_core a)
    exact ⟨_, _, _, hi, s.dataRead8_reads a, h _ _ altd main⟩
  exact ⟨fun r => ⟨_, exec_aluR s op r, h _ s rfl rfl⟩, fun n => ⟨_, exec_aluN s op n, h n s rfl rfl⟩,
    mem (exec_aluAtHL s op), fun x d => mem (exec_aluAtIdx s op x d)⟩

/-- A register of the destination bank is written, then flags of that bank. -/
theorem State.dst8_setFlags_takes (s : State) (r : Reg8) (v : Byte) (w : FlagUpd) : ∃ free,
    (((s.dst8 r v).setFlags w).destBank s.ctx.altd).get r = v ∧
    ((s.dst8 r v).setFlags w).destFlags s.ctx.altd = (s.destFlags s.ctx.altd).update w free ∧
    WritesRegsFlags [r] s ((s.dst8 r v).setFlags w) :=
  have written := s.dst8_writes r v
  ⟨_, (written.setFlags_get w r).trans (s.dst8_get r v), written.setFlags_flags w, written.setFlags w⟩

theorem aluA_of_ne_cp {op : AluOp} (h : op ≠ .cp) (x : Byte) (s : State) : aluA op x s =
    (s.dst8 .a (alu8 op s.main.a x s.main.f.c).1).setFlags (alu8 op s.main.a x s.main.f.c).2 := by
  cases op with
  | cp => exact absurd rfl h
  | add | adc | sub | sbc | and | xor | or => rfl

/-- An operation other than CP, by the function `g` of the operand that gives its result and flags. -/
theorem aluForms_of_ne_cp {op : AluOp} {g : Byte → Byte × FlagUpd} {P : Byte → State → State → Prop}
    (hop : op ≠ .cp) (hg : ∀ x, alu8 op s.main.a x s.main.f.c = g x)
    (hP : ∀ x u t (f : Flags) free, (t.destBank s.ctx.altd).a = (g x).1 →
      t.destFlags s.ctx.altd = f.update (g x).2 free → WritesRegsFlags [.a] u t → P x u t) : AluForms op s P := by
  refine aluForms_of_aluA fun x u altd main => ?_
  rw [aluA_of_ne_cp hop, main, hg]
  obtain ⟨free, a, flags, written⟩ := u.dst8_setFlags_takes .a (g x).1 (g x).2
  rw [altd] at a flags
  exact hP x u _ _ free a flags written

end AluA

/-- Settles O34: ADD is ADD8 with carry 0, ADC with main C; V of ADD8 by the signed sum. -/
theorem additions8 : Obligations.Additions8 := by
  unfold Obligations.Additions8
  refine ⟨fun s op c source => ?forms, fun a b c => ⟨_, _, _, _, rfl, add8_toNat a b c, rfl, beq_iff_eq, ?signs,
    add8_overflow_iff a b c, decide_eq_true_iff⟩⟩
  case forms =>
    have ⟨hop, sum⟩ : op ≠ .cp ∧ ∀ x, alu8 op s.main.a x s.main.f.c = add8 s.main.a x c := by
      obtain ⟨rfl, rfl⟩ | ⟨rfl, rfl⟩ := source
      · exact ⟨nofun, fun _ => rfl⟩
      · exact ⟨nofun, fun _ => rfl⟩
    refine aluForms_of_ne_cp hop sum fun x u t f free a flags written => ?_
    rw [a, flags]
    exact ⟨add8_toNat _ x c, add8_sumFlags _ x c f free, written⟩
  case signs => simp [BitVec.msb_eq_getLsbD_last, add8]

/-- Settles O35: SUB is SUB8 with borrow 0, SBC with main C; CP is SUB8 without its result. -/
theorem subtractions8 : Obligations.Subtractions8 := by
  unfold Obligations.Subtractions8
  intro s c
  refine ⟨fun op source => ?toA, ?cp⟩
  case toA =>
    have ⟨hop, difference⟩ : op ≠ .cp ∧ ∀ x, alu8 op s.main.a x s.main.f.c = sub8 s.main.a x c := by
      obtain ⟨rfl, rfl⟩ | ⟨rfl, rfl⟩ := source
      · exact ⟨nofun, fun _ => rfl⟩
      · exact ⟨nofun, fun _ => rfl⟩
    refine aluForms_of_ne_cp hop difference fun x u t f free a flags written => ?_
    rw [a, flags]
    exact ⟨sub8_toNat _ x c, sub8_diffFlags _ x c f free, written⟩
  case cp =>
    refine aluForms_of_aluA fun x u altd main => ⟨?flags, u.setFlags_writes _⟩
    show DiffFlags8 ((u.setFlags (sub8 u.main.a x false).2).destFlags s.ctx.altd) s.main.a x false
    rw [u.setFlags_destFlags _ _ altd.symm, main]
    exact sub8_diffFlags _ x false _ _

/-- Settles O36: each of the three is LOGIC8 of its operation on bits. (The model's LOGIC8 has the name `logic8`.) -/
theorem logic8Forms : Obligations.Logic8 := by
  unfold Obligations.Logic8
  intro s op f source
  have bits : op ≠ .cp ∧ ∃ g : Byte → Byte, (∀ x, alu8 op s.main.a x s.main.f.c = logic8 (g x)) ∧
      ∀ x, ∀ k < 8, (g x).getLsbD k = f (s.main.a.getLsbD k) (x.getLsbD k) := by
    obtain ⟨rfl, rfl⟩ | ⟨rfl, rfl⟩ | ⟨rfl, rfl⟩ := source
    · exact ⟨nofun, _, fun x => alu8_and _ x _, fun _ _ _ => BitVec.getLsbD_and⟩
    · exact ⟨nofun, _, fun x => alu8_xor _ x _, fun _ _ _ => BitVec.getLsbD_xor⟩
    · exact ⟨nofun, _, fun x => alu8_or _ x _, fun _ _ _ => BitVec.getLsbD_or⟩
  obtain ⟨hop, g, result, bit⟩ := bits
  refine aluForms_of_ne_cp hop result fun x u t f' free a flags written => ?_
  rw [a, flags]
  exact ⟨bit x, logic8_logicFlags (g x) f' free, written⟩

/-! ### INC and DEC of a byte (43_alu8.md R383-R390) -/

section IncDec8

variable (x : Byte) (f : Flags) (free : BitVec 4)

theorem inc8_eq : (inc8 x).1 = x + 1 := BitVec.eq_of_toNat_eq (add8_toNat x 1 false)

theorem dec8_eq : (dec8 x).1 = x - 1 := by
  apply BitVec.eq_of_toNat_eq
  have h : (dec8 x).1.toNat = diff8 x 1 false := sub8_toNat x 1 false
  rw [h]
  unfold diff8
  bv_omega

theorem inc8_flags :
    FlagsAre (f.update (inc8 x).2 free) (128 ≤ (x + 1).toNat) (x + 1 = 0) (x = 0x7F) (f.c = true) where
  s := by rw [← inc8_eq]; exact msb8_iff _
  z := by rw [← inc8_eq]; exact beq_iff_eq
  lv := by
    refine (add8_overflow_iff x 1 false).trans ?_
    have range := toInt_range (w := 7) x
    rw [← BitVec.toInt_inj]
    show x.toInt + 1 + 0 < -128 ∨ 127 < x.toInt + 1 + 0 ↔ x.toInt = 127
    omega
  c := Iff.rfl

theorem dec8_flags :
    FlagsAre (f.update (dec8 x).2 free) (128 ≤ (x - 1).toNat) (x - 1 = 0) (x = 0x80) (f.c = true) where
  s := by rw [← dec8_eq]; exact msb8_iff _
  z := by rw [← dec8_eq]; exact beq_iff_eq
  lv := by
    refine (sub8_overflow_iff x 1 false).trans ?_
    have range := toInt_range (w := 7) x
    rw [← BitVec.toInt_inj]
    show x.toInt - 1 - 0 < -128 ∨ 127 < x.toInt - 1 - 0 ↔ x.toInt = -128
    omega
  c := Iff.rfl

end IncDec8

/-- A byte read, `g` of it stored at the same address, then the flags of `g`. -/
theorem modifies_of_setFlags {s : State} {i : Instr} {a : Word} {g : Byte → Byte × FlagUpd}
    {P : Byte → Byte → State → Prop}
    (h : exec i s = .next (((s.dataRead8 a).2.dataWrite8 a (g (s.dataRead8 a).1).1).setFlags (g (s.dataRead8 a).1).2))
    (hP : ∀ x t free, t.destFlags s.ctx.altd = (s.destFlags s.ctx.altd).update (g x).2 free → P x (g x).1 t) :
    Modifies i a s P := by
  obtain ⟨altd, -, flags⟩ := State.dest_of_core (s.dataWrite8_dataRead8_core a (g (s.dataRead8 a).1).1)
  refine ⟨_, _, _, _, _, h, s.dataRead8_reads a, (s.dataRead8 a).2.dataWrite8_stores a _, State.setFlags_writes _ _,
    hP _ _ (Config.flagBits ((s.dataRead8 a).2.dataWrite8 a (g (s.dataRead8 a).1).1).draws) ?_⟩
  rw [State.setFlags_destFlags _ _ _ altd.symm, flags]

/-- Settles O37: ADD8 or SUB8 of the byte and 1, to the register or to the address it was read at, C kept. -/
theorem incDec8 : Obligations.IncDec8 := by
  unfold Obligations.IncDec8
  intro s
  refine ⟨fun r => ?incR, fun r => ?decR, fun i a operand => ?incMem, fun i a operand => ?decMem⟩
  case incR =>
    obtain ⟨free, reg, flags, written⟩ := s.dst8_setFlags_takes r (inc8 (s.main.get r)).1 (inc8 (s.main.get r)).2
    exact ⟨_, exec_incR s r, reg.trans (inc8_eq _), flags ▸ inc8_flags _ _ free, written⟩
  case decR =>
    obtain ⟨free, reg, flags, written⟩ := s.dst8_setFlags_takes r (dec8 (s.main.get r)).1 (dec8 (s.main.get r)).2
    exact ⟨_, exec_decR s r, reg.trans (dec8_eq _), flags ▸ dec8_flags _ _ free, written⟩
  case incMem =>
    have run : exec i s = incMem a s := by
      obtain ⟨rfl, rfl⟩ | ⟨x, d, rfl, rfl⟩ := operand
      · rfl
      · exact exec_incAtIdx s x d
    refine modifies_of_setFlags (g := inc8) run fun x t free flags => ?_
    rw [inc8_eq, flags]
    exact ⟨rfl, inc8_flags x _ free⟩
  case decMem =>
    have run : exec i s = decMem a s := by
      obtain ⟨rfl, rfl⟩ | ⟨x, d, rfl, rfl⟩ := operand
      · rfl
      · exact exec_decAtIdx s x d
    refine modifies_of_setFlags (g := dec8) run fun x t free flags => ?_
    rw [dec8_eq, flags]
    exact ⟨rfl, dec8_flags x _ free⟩

/-! ### NEG, CPL, CCF and SCF (43_alu8.md R391-R394) -/

/-- A write of C alone. -/
theorem exists_next_setCarry {s : State} {i : Instr} {b : Bool} (h : exec i s = .next (s.setFlags { c := some b })) :
    ∃ t, exec i s = .next t ∧ (t.destFlags s.ctx.altd).c = b ∧
      FlagsKept (t.destFlags s.ctx.altd) (s.destFlags s.ctx.altd) ∧ WritesRegsFlags [] s t := by
  refine ⟨_, h, ?_⟩
  rw [s.setFlags_destFlags _ _ rfl]
  exact ⟨rfl, ⟨rfl, rfl, rfl⟩, s.setFlags_writes _⟩

/-- Settles O38: NEG is SUB8 of 0 and A, CPL a write of A, CCF and SCF write C alone. -/
theorem accumulatorAndCarry : Obligations.AccumulatorAndCarry := by
  unfold Obligations.AccumulatorAndCarry
  intro s
  refine ⟨?neg, ?cpl, exists_next_setCarry rfl, exists_next_setCarry rfl⟩
  case neg =>
    obtain ⟨free, a, flags, written⟩ := s.dst8_setFlags_takes .a (sub8 0 s.main.a false).1 (sub8 0 s.main.a false).2
    have difference := (congrArg BitVec.toNat a).trans (sub8_toNat 0 s.main.a false)
    exact ⟨_, rfl, difference, flags ▸ sub8_diffFlags _ _ _ _ free, written⟩
  case cpl =>
    have complement := (congrArg BitVec.toNat (s.dst8_get .a (~~~s.main.a))).trans BitVec.toNat_not
    exact ⟨_, rfl, complement, s.dst8_writes .a _⟩

end Sys2Proof.Machine

namespace Sys2Proof.Machine

/-! ## 16-bit arithmetic and logic (44_alu16.md R400-R422) -/

/-- The bits from `n` up are not all zero exactly when the number reaches `2 ^ n`. -/
theorem two_pow_le_toNat_iff_bit {w n : Nat} (r : BitVec (w + 1)) :
    2 ^ n ≤ r.toNat ↔ ∃ k, n ≤ k ∧ k ≤ w ∧ r.getLsbD k = true := by
  constructor
  · intro high
    obtain ⟨k, hk, bit⟩ := Nat.exists_ge_and_testBit_of_ge_two_pow high
    rw [BitVec.testBit_toNat] at bit
    exact ⟨k, hk, Nat.le_of_lt_succ (BitVec.lt_of_getLsbD bit), bit⟩
  · rintro ⟨k, hk, -, bit⟩
    rw [← BitVec.testBit_toNat] at bit
    exact (Nat.pow_le_pow_right (by decide) hk).trans (Nat.ge_two_pow_of_testBit bit)

/-- The bits of an integer as a number are its remainder. -/
theorem ofInt_toNat_cast (w : Nat) (n : Int) : ((BitVec.ofInt w n).toNat : Int) = n % (2 ^ w : Nat) := by
  rw [BitVec.toNat_ofInt, Int.toNat_of_nonneg (Int.emod_nonneg _ (by positivity))]

/-! ### ADD16, SUB16, LOGIC16 and the flags of BOOL (44_alu16.md R400, R413) -/

section Helpers16

variable (a b r : Word) (c : Bool)

theorem add16_toNat : (add16 a b c).1.toNat = (a.toNat + b.toNat + c.toNat) % 65536 := BitVec.toNat_ofNat _ _

/-- With carry 0 the result of ADD16 is the sum of the words. -/
theorem add16_eq_add : (add16 a b false).1 = a + b := BitVec.eq_of_toNat_eq (add16_toNat a b false)

/-- V of ADD16 by the signed sum. -/
theorem add16_overflow_iff : (a.msb == b.msb && (add16 a b c).1.msb != a.msb) = true ↔
    a.toInt + b.toInt + c.toInt < -32768 ∨ 32767 < a.toInt + b.toInt + c.toInt := addOverflow_iff a b c

theorem sub16_toInt : ((sub16 a b c).1.toNat : Int) = ((a.toNat : Int) - b.toNat - c.toNat) % 65536 :=
  ofInt_toNat_cast 16 _

theorem sub16_toNat : (sub16 a b c).1.toNat = (65536 + a.toNat - b.toNat - c.toNat) % 65536 := by
  have := sub16_toInt a b c
  have := a.isLt
  have := b.isLt
  have := c.toNat_le
  omega

/-- V of SUB16 by the signed difference. -/
theorem sub16_overflow_iff : (a.msb != b.msb && (sub16 a b c).1.msb != a.msb) = true ↔
    a.toInt - b.toInt - c.toInt < -32768 ∨ 32767 < a.toInt - b.toInt - c.toInt := subOverflow_iff a b c

/-- The logical check by the bits of the result. -/
theorem logical16_iff_bit : logical16 r = true ↔ ∃ k, 12 ≤ k ∧ k ≤ 15 ∧ r.getLsbD k = true :=
  (logical16_iff r).trans (two_pow_le_toNat_iff_bit (n := 12) r)

variable (f : Flags) (free : BitVec 4)

theorem add16_flagsAre : FlagsAre (f.update (add16 a b c).2 free) (32768 ≤ (add16 a b c).1.toNat)
    ((add16 a b c).1 = 0) (a.toInt + b.toInt + c.toInt < -32768 ∨ 32767 < a.toInt + b.toInt + c.toInt)
    (65536 ≤ a.toNat + b.toNat + c.toNat) where
  s := msb16_iff _
  z := beq_iff_eq
  lv := add16_overflow_iff a b c
  c := decide_eq_true_iff

theorem sub16_flagsAre : FlagsAre (f.update (sub16 a b c).2 free) (32768 ≤ (sub16 a b c).1.toNat)
    ((sub16 a b c).1 = 0) (a.toInt - b.toInt - c.toInt < -32768 ∨ 32767 < a.toInt - b.toInt - c.toInt)
    (a.toNat < b.toNat + c.toNat) where
  s := msb16_iff _
  z := beq_iff_eq
  lv := sub16_overflow_iff a b c
  c := by
    show decide ((a.toNat : Int) - b.toNat - c.toNat < 0) = true ↔ _
    rw [decide_eq_true_iff]
    omega

theorem logic16_logicFlags : LogicFlags16 (f.update (logic16 r) free) r False where
  s := msb16_iff r
  z := zero16_iff r
  lv := logical16_iff r
  c := Bool.false_eq_true.to_iff

theorem bool16_eq_zero_iff : bool16 a = 0 ↔ a = 0 := by
  unfold bool16
  split
  case isTrue zero => exact iff_of_true rfl zero
  case isFalse nonzero => exact iff_of_false (by decide) nonzero

theorem bool16_flagsAre : FlagsAre (f.update (boolFlags (bool16 a)) free) False (a = 0) False False where
  s := Bool.false_eq_true.to_iff
  z := beq_iff_eq.trans (bool16_eq_zero_iff a)
  lv := Bool.false_eq_true.to_iff
  c := Bool.false_eq_true.to_iff

/-- The carry of ADD16 with carry 0, written alone. -/
theorem add16_carry_alone : ((f.update { c := (add16 a b false).2.c } free).c = true ↔ 65536 ≤ a.toNat + b.toNat) ∧
    FlagsKept (f.update { c := (add16 a b false).2.c } free) f :=
  ⟨(add16_flagsAre a b false f free).c, rfl, rfl, rfl⟩

end Helpers16

/-- Settles O16: V of ADD16 and SUB16 by signs and by the signed result, the logical check bit by bit. -/
theorem helpers16Compute : Obligations.Helpers16Compute := by
  unfold Obligations.Helpers16Compute
  refine ⟨fun a b c => ⟨_, _, _, _, rfl, add16_toNat a b c, rfl, beq_iff_eq, ?sumSigns, add16_overflow_iff a b c,
      decide_eq_true_iff⟩,
    fun a b c => ⟨_, _, _, _, rfl, sub16_toInt a b c, rfl, beq_iff_eq, ?differenceSigns, sub16_overflow_iff a b c,
      decide_eq_true_iff⟩,
    fun r => ⟨_, _, _, rfl, rfl, beq_iff_eq, logical16_iff_bit r⟩⟩
  case sumSigns => simp [BitVec.msb_eq_getLsbD_last, add16]
  case differenceSigns => simp [BitVec.msb_eq_getLsbD_last, sub16]

/-! ### A word result and its flags (44_alu16.md R401-R415) -/

section Results

variable {s : State} {i : Instr}

/-- A pair of the destination bank is written, then flags of that bank. -/
theorem exists_next_dst16_setFlags {p : Pair} {v : Word} {w : FlagUpd}
    (h : exec i s = .next ((s.dst16 p v).setFlags w)) : ∃ t free, exec i s = .next t ∧
      (t.destBank s.ctx.altd).pair p = v ∧ t.destFlags s.ctx.altd = (s.destFlags s.ctx.altd).update w free ∧
      WritesRegsFlags p.regs s t :=
  have written := s.dst16_writes p v
  ⟨_, _, h, (written.setFlags_pair w p).trans (s.dst16_pair p v), written.setFlags_flags w, written.setFlags w⟩

/-- The index register `x` is written, then flags of the destination bank. -/
theorem exists_next_setIdx_setFlags {x : Idx} {v : Word} {w : FlagUpd}
    (h : exec i s = .next ((s.setIdx x v).setFlags w)) : ∃ t free, exec i s = .next t ∧
      t.idx x = v ∧ t.destFlags s.ctx.altd = (s.destFlags s.ctx.altd).update w free ∧ WritesIdxFlags x s t :=
  have written := s.setIdx_writes x v
  have kept : ((s.setIdx x v).setFlags w).idx x = (s.setIdx x v).idx x := by cases x <;> rfl
  ⟨_, _, h, kept.trans (s.setIdx_idx x v), written.setFlags_flags w, written.setFlags w⟩

end Results

/-- Settles O39: ADD16 with carry 0, of whose flags C alone is written. -/
theorem additions16 : Obligations.Additions16 := by
  unfold Obligations.Additions16
  intro s
  refine ⟨fun r => ?hl, fun x r => ?idx, fun d => ?sp⟩
  case hl =>
    obtain ⟨t, free, run, sum, flags, written⟩ := exists_next_dst16_setFlags (exec_addHLSs s r)
    obtain ⟨carry, kept⟩ := add16_carry_alone s.hl (s.getDd r) (s.destFlags s.ctx.altd) free
    rw [← flags] at carry kept
    exact ⟨t, run, (congrArg BitVec.toNat sum).trans (add16_toNat _ _ false), carry, kept, written⟩
  case idx =>
    obtain ⟨t, free, run, sum, flags, written⟩ := exists_next_setIdx_setFlags (exec_addIdx s x r)
    obtain ⟨carry, kept⟩ := add16_carry_alone (s.idx x) (s.getXx x r) (s.destFlags s.ctx.altd) free
    rw [← flags] at carry kept
    exact ⟨t, run, (congrArg BitVec.toNat sum).trans (add16_toNat _ _ false), carry, kept, written⟩
  case sp =>
    have flags := State.setFlags_destFlags { s with sp := (add16 s.sp (sext16 d) false).1 }
      { c := (add16 s.sp (sext16 d) false).2.c } s.ctx.altd rfl
    obtain ⟨carry, kept⟩ := add16_carry_alone s.sp (sext16 d) (s.destFlags s.ctx.altd) (Config.flagBits s.draws)
    exact ⟨_, rfl, add16_eq_add s.sp (sext16 d), flags ▸ carry, flags ▸ kept, State.setFlags_writes _ _⟩

/-- Settles O40: ADD16 and SUB16 with main C, all four flags written. -/
theorem adcSbc16 : Obligations.AdcSbc16 := by
  unfold Obligations.AdcSbc16
  intro s r
  constructor
  case left =>
    obtain ⟨t, free, run, sum, flags, written⟩ := exists_next_dst16_setFlags (exec_adcHLSs s r)
    refine ⟨t, run, ?_, ?_, written⟩
    · rw [sum]; exact add16_toNat _ _ _
    · rw [sum, flags]; exact add16_flagsAre _ _ _ _ free
  case right =>
    obtain ⟨t, free, run, difference, flags, written⟩ := exists_next_dst16_setFlags (exec_sbcHLSs s r)
    refine ⟨t, run, ?_, ?_, written⟩
    · rw [difference]; exact sub16_toNat _ _ _
    · rw [difference, flags]; exact sub16_flagsAre _ _ _ _ free

/-- Settles O41: AND and OR are LOGIC16 of the operation on bits, BOOL has flags of its own. -/
theorem logicAndBool16 : Obligations.LogicAndBool16 := by
  unfold Obligations.LogicAndBool16
  intro s
  refine ⟨fun i f source => ?logicHL, fun x i f source => ?logicIdx, ?boolHL, fun x => ?boolIdx⟩
  case logicHL =>
    have ⟨v, run, bits⟩ : ∃ v, exec i s = .next ((s.dst16 .hl v).setFlags (logic16 v)) ∧
        ∀ k < 16, v.getLsbD k = f (s.hl.getLsbD k) (s.de.getLsbD k) := by
      obtain ⟨rfl, rfl⟩ | ⟨rfl, rfl⟩ := source
      · exact ⟨_, rfl, fun _ _ => BitVec.getLsbD_and⟩
      · exact ⟨_, rfl, fun _ _ => BitVec.getLsbD_or⟩
    obtain ⟨t, free, run, result, flags, written⟩ := exists_next_dst16_setFlags run
    rw [← result] at bits flags
    exact ⟨t, run, bits, flags ▸ logic16_logicFlags _ _ free, written⟩
  case logicIdx =>
    have ⟨v, run, bits⟩ : ∃ v, exec i s = .next ((s.setIdx x v).setFlags (logic16 v)) ∧
        ∀ k < 16, v.getLsbD k = f ((s.idx x).getLsbD k) (s.de.getLsbD k) := by
      obtain ⟨rfl, rfl⟩ | ⟨rfl, rfl⟩ := source
      · exact ⟨_, exec_andIdxDE s x, fun _ _ => BitVec.getLsbD_and⟩
      · exact ⟨_, exec_orIdxDE s x, fun _ _ => BitVec.getLsbD_or⟩
    obtain ⟨t, free, run, result, flags, written⟩ := exists_next_setIdx_setFlags run
    rw [← result] at bits flags
    exact ⟨t, run, bits, flags ▸ logic16_logicFlags _ _ free, written⟩
  case boolHL =>
    have run : exec .bool_HL s = .next ((s.dst16 .hl (bool16 s.hl)).setFlags (boolFlags (bool16 s.hl))) := rfl
    obtain ⟨t, free, run, result, flags, written⟩ := exists_next_dst16_setFlags run
    exact ⟨t, run, result, flags ▸ bool16_flagsAre s.hl _ free, written⟩
  case boolIdx =>
    obtain ⟨t, free, run, result, flags, written⟩ := exists_next_setIdx_setFlags (exec_boolIdx s x)
    exact ⟨t, run, result, flags ▸ bool16_flagsAre (s.idx x) _ free, written⟩

/-! ### INC and DEC of a word (44_alu16.md R416-R421) -/

theorem State.getDd_dd (s : State) (p : Pair) : s.getDd p.dd = s.main.pair p := by cases p <;> rfl

theorem exec_incSs_dd (s : State) (p : Pair) : exec (Form.incSs p.dd) s = .next (s.dst16 p (s.main.pair p + 1)) := by
  rw [exec_incSs, incSs, s.getDd_dd, dstDd_dd]

theorem exec_decSs_dd (s : State) (p : Pair) : exec (Form.decSs p.dd) s = .next (s.dst16 p (s.main.pair p - 1)) := by
  rw [exec_decSs, decSs, s.getDd_dd, dstDd_dd]

/-- Settles O42: each is the write of its result to a pair, to SP or to an index register. -/
theorem incDec16 : Obligations.IncDec16 := by
  unfold Obligations.IncDec16
  intro s
  exact ⟨fun p => exists_next_dst16 (exec_incSs_dd s p), fun p => exists_next_dst16 (exec_decSs_dd s p),
    fun h => ⟨(exec_incSs s .sp).trans (dstDd_sp_of_not_altd h _), (exec_decSs s .sp).trans (dstDd_sp_of_not_altd h _)⟩,
    fun x => exists_next_setIdx (exec_incIdx s x), fun x => exists_next_setIdx (exec_decIdx s x)⟩

/-! ### MUL (44_alu16.md R422) -/

/-- The two words of the product as one number: the remainder of the signed product. -/
theorem mul32_words (a b : Word) :
    (65536 * ((mul32 a b).extractLsb' 16 16).toNat + ((mul32 a b).extractLsb' 0 16).toNat : Int) =
      a.toInt * b.toInt % 2 ^ 32 := by
  have product : ((mul32 a b).toNat : Int) = a.toInt * b.toInt % 2 ^ 32 := ofInt_toNat_cast 32 _
  have := (mul32 a b).isLt
  simp only [BitVec.extractLsb'_toNat, Nat.shiftRight_eq_div_pow]
  omega

/-- Settles O43: HL and BC are the product's two words, and only H, L, B and C are written. -/
theorem mulSigned : Obligations.MulSigned := by
  unfold Obligations.MulSigned
  intro s
  have high := s.main.pair_setPair_same .hl ((mul32 s.bc s.de).extractLsb' 16 16)
  have low := (s.main.setPair .hl ((mul32 s.bc s.de).extractLsb' 16 16)).pair_setPair_same .bc
    ((mul32 s.bc s.de).extractLsb' 0 16)
  have words := congrArg₂ (fun h l : Word => (65536 * h.toNat + l.toNat : Int)) high low
  have product := words.trans (mul32_words s.bc s.de)
  exact ⟨_, rfl, product, rfl, fun _ => rfl, rfl, rfl, rfl⟩

end Sys2Proof.Machine

namespace Sys2Proof.Machine

/-! ## Rotates and shifts (45_rotate_shift.md R440-R477) -/

/-! ### One bit in and one bit out, at every width -/

section OneBit

variable {w : Nat} (x : BitVec (w + 1)) (b : Bool)

theorem msb_toNat_eq_div : x.msb.toNat = x.toNat / 2 ^ w := by
  have turn : x.toNat / 2 ^ w < 2 := by
    rw [Nat.div_lt_iff_lt_mul (by positivity), ← pow_succ']
    exact x.isLt
  have bit : x.msb = x.toNat.testBit w := by rw [BitVec.msb_eq_getLsbD_last, BitVec.testBit_toNat]; rfl
  rw [bit, Nat.toNat_testBit, Nat.mod_eq_of_lt turn]

theorem bit0_toNat_eq_mod : (x.getLsbD 0).toNat = x.toNat % 2 := by
  rw [← BitVec.testBit_toNat, Nat.toNat_testBit, pow_zero, Nat.div_one]

theorem bit0_iff_odd : x.getLsbD 0 = true ↔ x.toNat % 2 = 1 := by
  rw [← BitVec.testBit_toNat, Nat.mod_two_eq_one_iff_testBit_zero]

/-- One place to the left, `b` in at the low end. -/
theorem toNat_shiftedLeft : (x.extractLsb' 0 w ++ BitVec.ofBool b).toNat = 2 * x.toNat % 2 ^ (w + 1) + b.toNat := by
  calc (x.extractLsb' 0 w ++ BitVec.ofBool b).toNat
      = (x.extractLsb' 0 w).toNat * 2 + b.toNat := BitVec.toNat_concat _ b
    _ = 2 * x.toNat % 2 ^ (w + 1) + b.toNat := by
      rw [BitVec.extractLsb'_toNat, Nat.shiftRight_zero, Nat.mul_comm, ← Nat.mul_mod_mul_left, ← pow_succ']

/-- One place to the right, `b` in at the high end. -/
theorem toNat_shiftedRight : (BitVec.ofBool b ++ x.extractLsb' 1 w).toNat = x.toNat / 2 + 2 ^ w * b.toNat := by
  have half : x.toNat / 2 < 2 ^ w := by have := x.isLt; omega
  calc (BitVec.ofBool b ++ x.extractLsb' 1 w).toNat
      = b.toNat <<< w + (x.extractLsb' 1 w).toNat := BitVec.toNat_cons'
    _ = b.toNat * 2 ^ w + x.toNat / 2 := by
      rw [BitVec.extractLsb'_toNat, Nat.shiftRight_eq_div_pow, pow_one, Nat.mod_eq_of_lt half, Nat.shiftLeft_eq]
    _ = x.toNat / 2 + 2 ^ w * b.toNat := by rw [Nat.add_comm, Nat.mul_comm]

end OneBit

/-! ### The byte operations, RL and RR of a word, SHIFTFLAGS8 and SHIFTFLAGS16 -/

section Helpers

/-- The sign copied into the place it leaves halves the signed number, rounded down. -/
theorem toInt_signCopied (x r : Byte) (h : r.toNat = x.toNat / 2 + 128 * x.msb.toNat) : r.toInt = x.toInt / 2 := by
  have sign : x.msb.toNat = x.toNat / 128 := msb_toNat_eq_div x
  have := x.isLt
  rw [BitVec.toInt_eq_toNat_cond, BitVec.toInt_eq_toNat_cond]
  omega

/-- Each operation is a shift by one place; they differ in the bit that comes in. -/
theorem rot8_rotated (op : RotOp) (x : Byte) (cin : Bool) :
    Rotated op x (rot8 op x cin).1 cin (rot8 op x cin).2 := by
  have left := toNat_shiftedLeft (w := 7) x
  have right := toNat_shiftedRight (w := 7) x
  cases op with
  | rlc => exact ⟨(left x.msb).trans (congrArg _ (msb_toNat_eq_div x)), msb8_iff x⟩
  | rl => exact ⟨left cin, msb8_iff x⟩
  | sla => exact ⟨left false, msb8_iff x⟩
  | rrc => exact ⟨(right _).trans (congrArg (x.toNat / 2 + 128 * ·) (bit0_toNat_eq_mod x)), bit0_iff_odd x⟩
  | rr => exact ⟨right cin, bit0_iff_odd x⟩
  | sra => exact ⟨toInt_signCopied x _ (right x.msb), bit0_iff_odd x⟩
  | srl => exact ⟨right false, bit0_iff_odd x⟩

theorem rl16_toNat (v : Word) (cin : Bool) : (rl16 v cin).1.toNat = 2 * v.toNat % 65536 + cin.toNat :=
  toNat_shiftedLeft v cin

theorem rr16_toNat (v : Word) (cin : Bool) : (rr16 v cin).1.toNat = v.toNat / 2 + 32768 * cin.toNat :=
  toNat_shiftedRight v cin

/-- The result of a rotate or shift of a byte and SHIFTFLAGS8 of it: what R445-R472 write. -/
def rot8WithFlags (op : RotOp) (cin : Bool) (x : Byte) : Byte × FlagUpd :=
  ((rot8 op x cin).1, shiftFlags8 (rot8 op x cin).1 (rot8 op x cin).2)

theorem rotR_eq_next (op : RotOp) (r : Reg8) (s : State) : rotR op r s =
    .next ((s.dst8 r (rot8WithFlags op s.main.f.c (s.main.get r)).1).setFlags
      (rot8WithFlags op s.main.f.c (s.main.get r)).2) := rfl

theorem rotMem_eq_next (op : RotOp) (a : Word) (s : State) : rotMem op a s =
    .next (((s.dataRead8 a).2.dataWrite8 a (rot8WithFlags op s.main.f.c (s.dataRead8 a).1).1).setFlags
      (rot8WithFlags op s.main.f.c (s.dataRead8 a).1).2) := rfl

variable (f : Flags) (free : BitVec 4)

theorem rot8WithFlags_rotated (op : RotOp) (cin : Bool) (x : Byte) :
    Rotated op x (rot8WithFlags op cin x).1 cin (f.update (rot8WithFlags op cin x).2 free).c := rot8_rotated op x cin

theorem rot8WithFlags_logicFlags (op : RotOp) (cin : Bool) (x : Byte) :
    LogicFlags8 (f.update (rot8WithFlags op cin x).2 free) (rot8WithFlags op cin x).1
      ((f.update (rot8WithFlags op cin x).2 free).c = true) where
  s := msb8_iff _
  z := zero8_iff _
  lv := logical8_iff _
  c := Iff.rfl

theorem shiftFlags16_logicFlags (r : Word) {c : Bool} {p : Prop} (out : c = true ↔ p) :
    LogicFlags16 (f.update (shiftFlags16 r c) free) r p where
  s := msb16_iff r
  z := zero16_iff r
  lv := logical16_iff r
  c := out

end Helpers

/-! ### Rotates and shifts of a byte (45_rotate_shift.md R441-R472) -/

/-- Settles O44: the operation on A or on a register, then C alone or all of SHIFTFLAGS8. -/
theorem registerRotates : Obligations.RegisterRotates := by
  unfold Obligations.RegisterRotates
  intro s
  refine ⟨fun i op source => ?accumulator, fun op r => ?register⟩
  case accumulator =>
    have run : exec i s = rotA op s := by
      obtain ⟨rfl, rfl⟩ | ⟨rfl, rfl⟩ | ⟨rfl, rfl⟩ | ⟨rfl, rfl⟩ := source
      · rfl
      · rfl
      · rfl
      · rfl
    obtain ⟨free, a, flags, written⟩ := s.dst8_setFlags_takes .a (rot8 op s.main.a s.main.f.c).1
      { c := some (rot8 op s.main.a s.main.f.c).2 }
    rw [Bank.get_a] at a
    refine ⟨_, run, ?_, ?_, written⟩
    · rw [a, flags]; exact rot8_rotated op s.main.a s.main.f.c
    · rw [flags]; exact ⟨rfl, rfl, rfl⟩
  case register =>
    obtain ⟨free, reg, flags, written⟩ := s.dst8_setFlags_takes r (rot8WithFlags op s.main.f.c (s.main.get r)).1
      (rot8WithFlags op s.main.f.c (s.main.get r)).2
    refine ⟨_, (exec_rotR s op r).trans (rotR_eq_next op r s), ?_, ?_, written⟩
    · rw [reg, flags]; exact rot8WithFlags_rotated _ free op _ _
    · rw [reg, flags]; exact rot8WithFlags_logicFlags _ free op _ _

/-- Settles O45: the operation on the byte read, the result stored at the same address, then SHIFTFLAGS8. -/
theorem memoryRotates : Obligations.MemoryRotates := by
  unfold Obligations.MemoryRotates
  intro s op i a operand
  have run : exec i s = rotMem op a s := by
    obtain ⟨rfl, rfl⟩ | ⟨x, d, rfl, rfl⟩ := operand
    · exact exec_rotAtHL s op
    · exact exec_rotAtIdx s op x d
  refine modifies_of_setFlags (g := rot8WithFlags op s.main.f.c) (run.trans (rotMem_eq_next op a s))
    fun x t free flags => ?_
  rw [flags]
  exact ⟨rot8WithFlags_rotated _ free op _ x, rot8WithFlags_logicFlags _ free op _ x⟩

/-! ### 17-bit rotates of a word (45_rotate_shift.md R473-R477) -/

/-- Settles O46: RL and RR of a word through main C, then SHIFTFLAGS16 with the bit that goes out. -/
theorem wordRotates : Obligations.WordRotates := by
  unfold Obligations.WordRotates
  intro s
  refine ⟨?rlDE, fun i p source => ?rrPair, fun x => ?rrIdx⟩
  case rlDE =>
    have run : exec .rl_DE s = .next ((s.dst16 .de (rl16 s.de s.main.f.c).1).setFlags
        (shiftFlags16 (rl16 s.de s.main.f.c).1 s.de.msb)) := rfl
    obtain ⟨t, free, run, result, flags, written⟩ := exists_next_dst16_setFlags run
    refine ⟨t, run, ?_, ?_, written⟩
    · rw [result]; exact rl16_toNat s.de s.main.f.c
    · rw [result, flags]; exact shiftFlags16_logicFlags _ free _ (msb16_iff s.de)
  case rrPair =>
    have run : exec i s = .next ((s.dst16 p (rr16 (s.main.pair p) s.main.f.c).1).setFlags
        (shiftFlags16 (rr16 (s.main.pair p) s.main.f.c).1 ((s.main.pair p).getLsbD 0))) := by
      obtain ⟨rfl, rfl⟩ | ⟨rfl, rfl⟩ := source
      · rfl
      · rfl
    obtain ⟨t, free, run, result, flags, written⟩ := exists_next_dst16_setFlags run
    refine ⟨t, run, ?_, ?_, written⟩
    · rw [result]; exact rr16_toNat (s.main.pair p) s.main.f.c
    · rw [result, flags]; exact shiftFlags16_logicFlags _ free _ (bit0_iff_odd (s.main.pair p))
  case rrIdx =>
    obtain ⟨t, free, run, result, flags, written⟩ := exists_next_setIdx_setFlags (exec_rrIdx s x)
    refine ⟨t, run, ?_, ?_, written⟩
    · rw [result]; exact rr16_toNat (s.idx x) s.main.f.c
    · rw [result, flags]; exact shiftFlags16_logicFlags _ free _ (bit0_iff_odd (s.idx x))

end Sys2Proof.Machine

namespace Sys2Proof.Machine

/-! ## Bit tests, resets and sets (46_bit.md R481-R492) -/

/-! ### `bit(b)` as a power of two -/

section BitMask

variable (b : BitNo) (x : Byte)

theorem BitNo.toNat_lt : b.toNat < 8 := by cases b <;> decide

theorem bitMask_eq_twoPow : bitMask b = BitVec.twoPow 8 b.toNat := rfl

theorem bitMask_getLsbD (k : Nat) : (bitMask b).getLsbD k = decide (k = b.toNat) := by
  rw [bitMask_eq_twoPow, BitVec.getLsbD_twoPow, decide_eq_true b.toNat_lt, Bool.true_and]
  exact decide_eq_decide.mpr eq_comm

theorem bitMask_ne_zero : bitMask b ≠ 0 := fun zero => by
  have clear := congrArg (fun m : Byte => m.getLsbD b.toNat) zero
  simp [bitMask_getLsbD] at clear

/-- The test of BIT: the mask leaves nothing exactly if the bit it keeps is 0. -/
theorem and_bitMask_eq_zero_iff : x &&& bitMask b = 0 ↔ x.getLsbD b.toNat = false := by
  rw [bitMask_eq_twoPow, BitVec.and_twoPow, ← bitMask_eq_twoPow]
  cases x.getLsbD b.toNat with
  | false => simp
  | true => simpa using bitMask_ne_zero b

/-- Z alone is written, as R481 says; S, L/V and C are kept. -/
theorem bitFlags_flagsAre (f : Flags) (free : BitVec 4) : FlagsAre (f.update (bitFlags b x) free) (f.s = true)
    (x.getLsbD b.toNat = false) (f.lv = true) (f.c = true) where
  s := Iff.rfl
  z := beq_iff_eq.trans (and_bitMask_eq_zero_iff b x)
  lv := Iff.rfl
  c := Iff.rfl

/-- The byte that SET (`v` true) or RES (`v` false) makes of `x`. -/
def writeBit (v : Bool) : Byte := if v then x ||| bitMask b else x &&& ~~~bitMask b

theorem writeBit_true : writeBit b x true = x ||| bitMask b := rfl

theorem writeBit_false : writeBit b x false = x &&& ~~~bitMask b := rfl

/-- Bit `b` takes the value written, every other bit is kept. -/
theorem writeBit_getLsbD (v : Bool) {k : Nat} (inByte : k < 8) :
    (writeBit b x v).getLsbD k = if k = b.toNat then v else x.getLsbD k := by
  cases v with
  | true =>
    rw [writeBit_true, BitVec.getLsbD_or, bitMask_getLsbD]
    by_cases here : k = b.toNat <;> simp [here]
  | false =>
    rw [writeBit_false, BitVec.getLsbD_and, BitVec.getLsbD_not, bitMask_getLsbD]
    by_cases here : k = b.toNat <;> simp [here, inByte]

end BitMask

/-! ### BIT (46_bit.md R481-R484) -/

/-- A flag write of BIT in a state `u` whose destination flags are those of `s`. -/
theorem State.setFlags_bitFlags {s u : State} (altd : u.ctx.altd = s.ctx.altd)
    (flags : u.destFlags s.ctx.altd = s.destFlags s.ctx.altd) (b : BitNo) (x : Byte) :
    WritesRegsFlags [] u (u.setFlags (bitFlags b x)) ∧
    FlagsAre ((u.setFlags (bitFlags b x)).destFlags s.ctx.altd) ((s.destFlags s.ctx.altd).s = true)
      (x.getLsbD b.toNat = false) ((s.destFlags s.ctx.altd).lv = true) ((s.destFlags s.ctx.altd).c = true) := by
  refine ⟨u.setFlags_writes _, ?_⟩
  rw [u.setFlags_destFlags _ _ altd.symm, flags]
  exact bitFlags_flagsAre b x _ _

/-- The deferral and the flag write of BIT b,(HL) do not see each other. -/
theorem bitMem_privileged (b : BitNo) (a : Word) (s : State) :
    (bitMem b a s).privileged = (s.dataRead8 a).2.privileged.setFlags (bitFlags b (s.dataRead8 a).1) := rfl

/-- Settles O47: each form is a write of Z by the bit, in memory or I/O space behind the read of the byte. -/
theorem bitTests : Obligations.BitTests := by
  unfold Obligations.BitTests
  intro s b
  refine ⟨fun r => ?register, ?atHL, fun x d => ?atIdx⟩
  case register => exact ⟨_, exec_bitR s b r, State.setFlags_bitFlags rfl rfl b (s.main.get r)⟩
  case atHL =>
    obtain ⟨altd, -, flags⟩ := State.dest_of_core (s.dataRead8_core s.hl)
    have run : exec (Form.bitAtHL b) s = .next (bitMem b s.hl s).privileged := exec_bitAtHL s b
    rw [bitMem_privileged] at run
    exact ⟨_, _, _, run, s.dataRead8_reads s.hl,
      State.setFlags_bitFlags (u := (s.dataRead8 s.hl).2.privileged) altd flags b _⟩
  case atIdx =>
    obtain ⟨altd, -, flags⟩ := State.dest_of_core (s.dataRead8_core (s.idxAddr x d))
    exact ⟨_, _, _, exec_bitAtIdx s b x d, s.dataRead8_reads _, State.setFlags_bitFlags altd flags b _⟩

/-! ### RES and SET (46_bit.md R485-R492) -/

/-- Settles O48: each form writes `writeBit` of its operand, to the register or to the address it was read at. -/
theorem bitWrites : Obligations.BitWrites := by
  unfold Obligations.BitWrites
  intro s b
  refine ⟨fun r i v source => ?register, fun i a v operand => ?memory⟩
  case register =>
    have run : exec i s = .next (s.dst8 r (writeBit b (s.main.get r) v)) := by
      obtain ⟨rfl, rfl⟩ | ⟨rfl, rfl⟩ := source
      · exact exec_resR s b r
      · exact exec_setR s b r
    obtain ⟨t, run, result, written⟩ := exists_next_dst8 run
    refine ⟨t, run, written, fun k inByte => ?_⟩
    rw [result]
    exact writeBit_getLsbD b _ v inByte
  case memory =>
    have run : exec i s = .next ((s.dataRead8 a).2.dataWrite8 a (writeBit b (s.dataRead8 a).1 v)) := by
      obtain ⟨rfl, rfl, rfl⟩ | ⟨rfl, rfl, rfl⟩ | ⟨x, d, rfl, ⟨rfl, rfl⟩ | ⟨rfl, rfl⟩⟩ := operand
      · exact exec_resAtHL s b
      · exact exec_setAtHL s b
      · exact exec_resAtIdx s b x d
      · exact exec_setAtIdx s b x d
    exact ⟨_, _, _, _, run, s.dataRead8_reads a, (s.dataRead8 a).2.dataWrite8_stores a _,
      fun k inByte => writeBit_getLsbD b _ v inByte⟩

end Sys2Proof.Machine

namespace Sys2Proof.Machine

/-! ## Jumps (47_control.md R501-R508) -/

section Djnz

variable (s : State)

/-- DJNZ takes the jump where main B is not 1, then writes B in the destination bank. -/
theorem exec_djnz_e (k : Byte) : exec (.djnz_e k) s =
    .next ((s.setPc (if s.main.b = 1 then s.pc else s.relTarget k)).dst8 .b (s.main.b - 1)) := by
  show execDjnz_e k s = _
  unfold execDjnz_e
  by_cases last : s.main.b = 1
  · simp only [last, sub_self, if_true]
    rfl
  · simp only [sub_eq_zero, last, if_false]
    rfl

end Djnz

/-- Settles O49: the jumps set PC; DJNZ sets PC and writes B in the bank that ALTD selects. -/
theorem jumps : Obligations.Jumps := by
  unfold Obligations.Jumps
  intro s
  refine ⟨fun _ => rfl, exec_jpF s, rfl, exec_jpIdx s, fun _ => rfl, exec_jrCc s, fun k => ?djnz⟩
  case djnz => exact ⟨_, exec_djnz_e s k, State.dst8_get _ .b _, rfl, State.dst8_writes _ .b _⟩

/-! ## Calls and returns (47_control.md R509-R511, R515; 49_prefix_system.md R584) -/

section Calls

variable {s : State}

/-- A word is known by its two bytes as numbers. -/
theorem eq_mkWord {a : Word} {hi lo : Byte} (h : a.toNat = 256 * hi.toNat + lo.toNat) : a = mkWord hi lo := by
  apply BitVec.eq_of_toNat_eq
  rw [mkWord_toNat, h, Nat.add_comm]

/-- A call pushes PC and changes nothing else but PC. -/
theorem State.callTo_rest (s : State) (a : Word) :
    s.callTo a = { s with mem := (s.callTo a).mem, sp := (s.callTo a).sp, pc := a } := rfl

theorem State.ret_eq (s : State) : s.ret = { s with pc := s.top16, sp := s.sp + 2 } := rfl

theorem exec_ret (s : State) : exec .ret s = .next s.ret := rfl

/-- CALL, RST and SYSCALL are calls, whatever the target. -/
theorem exec_eq_callTo {i : Instr} (h : (∃ mn, i = .call_mn mn) ∨ (∃ v, i = Form.rst v) ∨ i = .syscall) :
    ∃ a, exec i s = .next (s.callTo a) := by
  obtain ⟨mn, rfl⟩ | ⟨v, rfl⟩ | rfl := h
  · exact ⟨mn, rfl⟩
  · exact ⟨_, exec_rst s v⟩
  · exact ⟨_, rfl⟩

/-- A return brings SP to where it was before the push. -/
theorem PushedWord.ret_sp {t : State} {v : Word} (h : PushedWord s t v) : t.ret.sp = s.sp := by
  rw [t.ret_eq, h.sp]
  exact sub_add_cancel s.sp 2

/-- A return goes to the word that was pushed, where the mapping keeps its bytes apart. -/
theorem PushedWord.ret_pc {t : State} {v : Word} (h : PushedWord s t v) (apart : s.apart (s.sp - 1) (s.sp - 2))
    (mapped : ∀ a, t.translate a = s.translate a) : t.ret.pc = v := by
  rw [t.ret_eq]
  exact h.top16 apart mapped

/-- A return after a call changes PC, beside the two bytes that the call stored. -/
theorem State.ret_callTo (s : State) (a : Word) :
    (s.callTo a).ret = { s with mem := (s.callTo a).mem, pc := (s.callTo a).top16 } := by
  have sp : (s.callTo a).sp + 2 = s.sp := sub_add_cancel s.sp 2
  rw [State.ret_eq, sp]
  rfl

end Calls

/-- Settles O50: the calls are `State.callTo` of their target, the returns that are taken `State.ret`. -/
theorem callsAndReturns : Obligations.CallsAndReturns := by
  unfold Obligations.CallsAndReturns
  intro s
  refine ⟨fun i a target => ?call, ⟨s.top16, rfl, s.top16_toNat⟩, fun f => ⟨fun no => ?notTaken, fun yes => ?taken⟩⟩
  case call =>
    have run : exec i s = .next (s.callTo a) := by
      obtain rfl | ⟨v, o, rfl, vector, ha⟩ | ⟨rfl, ha⟩ := target
      · rfl
      · have offset : v.offset.toNat = o := by
          cases v <;> simpa [Rst.offset, eq_comm] using vector
        subst offset
        rw [eq_mkWord ha]
        exact exec_rst s v
      · rw [eq_mkWord (lo := 0x60) ha]
        rfl
    exact ⟨_, run, s.callTo_pushes a, s.callTo_rest a⟩
  case notTaken =>
    rw [exec_retF, retF, no]
    rfl
  case taken =>
    rw [exec_retF, retF, yes]
    exact ⟨s.top16, rfl, s.top16_toNat⟩

/-- Settles O51: the return pops the word that the call pushed. -/
theorem returnUndoesCall : Obligations.ReturnUndoesCall := by
  unfold Obligations.ReturnUndoesCall
  intro s t i call run
  obtain ⟨a, run'⟩ := exec_eq_callTo (s := s) call
  obtain rfl : s.callTo a = t := Host.Outcome.next.inj (run'.symm.trans run)
  have pushed := s.callTo_pushes a
  exact ⟨_, exec_ret _, s.ret_callTo a, fun apart => pushed.ret_pc apart (s.callTo_translate a), pushed.mem⟩

/-! ## Long jumps, calls and returns (47_control.md R512-R514; 20_memory.md R95) -/

section LongCalls

variable (s : State) (x : Byte) (mn : Word)

/-- The state after LCALL: XPC and the address of the next instruction pushed, then the jump. -/
def State.longCall : State := { (s.push8 s.xpc).push16 s.pc with xpc := x, pc := mn }

/-- The state after LRET. -/
def State.longRet : State := { s with pc := s.top16, xpc := s.memRead8 (s.sp + 2), sp := s.sp + 3 }

theorem exec_lcall_x_mn : exec (.lcall_x_mn mn x) s = .next (s.longCall x mn) := rfl

theorem exec_lret : exec .lret s = .next s.longRet := rfl

theorem sub_one_one (a : Word) : a - 1 - 1 = a - 2 := sub_sub a 1 1

theorem sub_one_two (a : Word) : a - 1 - 2 = a - 3 := sub_sub a 1 2

theorem State.longCall_sp : (s.longCall x mn).sp = s.sp - 3 := sub_one_two s.sp

theorem State.longCall_rest :
    s.longCall x mn = { s with mem := (s.longCall x mn).mem, sp := s.sp - 3, xpc := x, pc := mn } := by
  rw [← s.longCall_sp x mn]
  rfl

/-- Behind the push of XPC the address of the next instruction is pushed as a call does. -/
theorem State.longCall_pushes : PushedWord (s.push8 s.xpc) (s.longCall x mn) s.pc :=
  have h := (s.push8 s.xpc).push16_pushes s.pc
  ⟨h.high, h.low, h.sp, h.mem⟩

theorem State.push8_stores (v : Byte) : (s.push8 v).physRead (s.translate (s.sp - 1)) = v ∧
    SameMemOutside [s.translate (s.sp - 1)] s (s.push8 v) :=
  have h := s.memWrite8_stores (s.sp - 1) v
  ⟨h.byte, h.mem⟩

variable {s}

/-- Addresses that the mapping keeps apart, where the default does so by their low twelve bits. -/
theorem State.translate_ne_of_apart {a b : Word} (h : s.apart a b) (low : a.toNat % 4096 ≠ b.toNat % 4096) :
    s.translate a ≠ s.translate b := h.elim (fun hd => s.translate_ne hd low) id

theorem State.longCall_pcHigh (apart : s.apart (s.sp - 2) (s.sp - 3)) :
    (s.longCall x mn).physRead (s.translate (s.sp - 2)) = hiByte s.pc := by
  rw [← sub_one_one, ← sub_one_two] at apart
  rw [← sub_one_one, hiByte_eq]
  exact (s.longCall_pushes x mn).high apart

variable (s)

theorem State.longCall_pcLow : (s.longCall x mn).physRead (s.translate (s.sp - 3)) = loByte s.pc := by
  rw [← sub_one_two, loByte_eq]
  exact (s.longCall_pushes x mn).low

theorem State.longCall_sameMemOutside_push8 :
    SameMemOutside [s.translate (s.sp - 2), s.translate (s.sp - 3)] (s.push8 s.xpc) (s.longCall x mn) := by
  rw [← sub_one_one, ← sub_one_two]
  exact (s.longCall_pushes x mn).mem

theorem State.longCall_sameMemOutside : SameMemOutside
    [s.translate (s.sp - 1), s.translate (s.sp - 2), s.translate (s.sp - 3)] s (s.longCall x mn) := by
  intro pa h
  rw [List.mem_cons, not_or] at h
  obtain ⟨xpc, pc⟩ := h
  exact (s.longCall_sameMemOutside_push8 x mn pa pc).trans ((s.push8_stores s.xpc).2 pa (by simpa using xpc))

variable {s}

/-- XPC stays where both bytes stored after it are elsewhere. -/
theorem State.longCall_xpc (high : s.apart (s.sp - 1) (s.sp - 2)) (low : s.apart (s.sp - 1) (s.sp - 3)) :
    (s.longCall x mn).physRead (s.translate (s.sp - 1)) = s.xpc := by
  have highNe := s.translate_ne_of_apart high (by bv_omega)
  have lowNe := s.translate_ne_of_apart low (by bv_omega)
  rw [s.longCall_sameMemOutside_push8 x mn _ (by simpa using ⟨highNe, lowNe⟩)]
  exact (s.push8_stores s.xpc).1

/-- Below E000 a mapping does not see the new XPC. -/
theorem State.longCall_memRead8 {a : Word} (h : a.toNat < 0xE000) :
    (s.longCall x mn).memRead8 a = (s.longCall x mn).physRead (s.translate a) :=
  congrArg (s.longCall x mn).physRead (translateOf_xpc_blind ⟨s.xpc, s.su, s.platform, s.io⟩ s.translation h x)

/-- LRET reads back the three bytes that LCALL pushed, where they are below E000 and apart. -/
theorem State.longRet_longCall (above : 3 ≤ s.sp.toNat) (below : s.sp.toNat ≤ 0xE000)
    (xpcHigh : s.apart (s.sp - 1) (s.sp - 2)) (xpcLow : s.apart (s.sp - 1) (s.sp - 3))
    (highLow : s.apart (s.sp - 2) (s.sp - 3)) :
    (s.longCall x mn).longRet = { s with mem := (s.longCall x mn).mem } := by
  have atXpc : s.sp - 3 + 2 = s.sp - 1 := by bv_omega
  have atHigh : s.sp - 3 + 1 = s.sp - 2 := by bv_omega
  have xpc : (s.longCall x mn).memRead8 (s.sp - 1) = s.xpc := by
    rw [State.longCall_memRead8 x mn (by bv_omega), State.longCall_xpc x mn xpcHigh xpcLow]
  have pc : (s.longCall x mn).top16 = s.pc := by
    rw [State.top16, State.memRead16, s.longCall_sp, atHigh, State.longCall_memRead8 x mn (by bv_omega),
      State.longCall_memRead8 x mn (by bv_omega), State.longCall_pcHigh x mn highLow, s.longCall_pcLow, mkWord_hi_lo]
  rw [State.longRet, pc, s.longCall_sp, atXpc, xpc, show s.sp - 3 + 3 = s.sp from sub_add_cancel s.sp 3]
  unfold State.longCall
  rfl

end LongCalls

/-- Settles O52: LCALL is a push of XPC and a call, of which LRET reads the three bytes. -/
theorem longCalls : Obligations.LongCalls := by
  unfold Obligations.LongCalls
  intro s x mn
  rw [← hiByte_eq, ← loByte_eq]
  exact ⟨rfl, ⟨_, exec_lcall_x_mn s x mn, s.longCall_rest x mn, State.longCall_xpc x mn, State.longCall_pcHigh x mn,
    s.longCall_pcLow x mn, s.longCall_sameMemOutside x mn, fun above below xh xl hl =>
      ⟨_, exec_lret _, State.longRet_longCall x mn above below xh xl hl, fun _ => rfl⟩⟩,
    s.top16, rfl, s.top16_toNat⟩

/-! ## Block moves (48_block.md R540-R550) -/

section Blocks

variable (s : State)

/-- A counter that went down is 0 exactly where it was 1. -/
theorem sub_one_eq_zero_iff (w : Word) : w - 1 = 0 ↔ w = 1 := sub_eq_zero

/-- The end of an iteration in a state whose BC went down: back to the first byte unless BC was 1. -/
theorem State.again_pc {u : State} (bc : u.bc = s.bc - 1) (ctx : u.ctx = s.ctx) (pc : u.pc = s.pc) :
    u.again.pc = if s.bc ≠ 1 then s.ctx.first else s.pc := by
  unfold State.again
  rw [bc, ite_not]
  by_cases last : s.bc = 1
  · rw [if_pos last, if_pos ((sub_one_eq_zero_iff _).mpr last), pc]
  · rw [if_neg last, if_neg (mt (sub_one_eq_zero_iff _).mp last), ← ctx]
    rfl

/-- After the transfer of a block move has led from `s` to `m`, its counters and L/V lead to `t`: pointers moved, BC
down, L/V set unless BC is 0, PC at `pc`. -/
structure CountsOn (s m t : State) (dDE dHL pc : Word) : Prop where
  rest : t = { m with main := t.main, pc := t.pc, draws := t.draws }
  de : t.de = s.de + dDE
  hl : t.hl = s.hl + dHL
  bc : t.bc = s.bc - 1
  a : t.main.a = s.main.a
  flags : FlagsAre t.main.f (s.main.f.s = true) (s.main.f.z = true) (s.bc ≠ 1) (s.main.f.c = true)
  pc : t.pc = pc

variable {s} {m : State} (dDE dHL : Word)

/-- The counters of a transfer that left the main bank and PC. -/
theorem State.blockUpdate_countsOn (main : m.main = s.main) (pc : m.pc = s.pc) :
    CountsOn s m (m.blockUpdate dDE dHL) dDE dHL s.pc where
  rest := rfl
  de := by rw [State.de, State.de, ← main]; exact mkWord_hi_lo _
  hl := by rw [State.hl, State.hl, ← main]; exact mkWord_hi_lo _
  bc := by rw [State.bc, State.bc, ← main]; exact mkWord_hi_lo _
  a := by rw [← main]; rfl
  flags := by
    rw [State.bc, ← main]
    exact ⟨Iff.rfl, Iff.rfl, bne_iff_ne.trans (sub_one_eq_zero_iff _).not, Iff.rfl⟩
  pc := pc

/-- A repeating form goes back to its first byte unless BC was 1. -/
theorem CountsOn.again {t : State} {dDE dHL : Word} (h : CountsOn s m t dDE dHL s.pc) (ctx : t.ctx = s.ctx) :
    CountsOn s m t.again dDE dHL (if s.bc ≠ 1 then s.ctx.first else s.pc) := by
  have pc := s.again_pc h.bc ctx h.pc
  obtain ⟨rest, de, hl, bc, a, flags, -⟩ := h
  rw [t.again_rest] at pc ⊢
  exact ⟨by rw [rest], de, hl, bc, a, flags, pc⟩

/-- The transfer leaves the main bank, PC and the context. -/
theorem State.moveToIo_main_pc_ctx (s : State) :
    s.moveToIo.main = s.main ∧ s.moveToIo.pc = s.pc ∧ s.moveToIo.ctx = s.ctx := by
  rw [State.moveToIo, s.dataWrite8_rest]
  exact ⟨rfl, rfl, rfl⟩

theorem State.moveFromIo_main_pc_ctx (s : State) :
    s.moveFromIo.main = s.main ∧ s.moveFromIo.pc = s.pc ∧ s.moveFromIo.ctx = s.ctx := by
  rw [State.moveFromIo, s.dataRead8_rest]
  exact ⟨rfl, rfl, rfl⟩

theorem State.ldIter_countsOn (s : State) : CountsOn s s.moveToIo (s.ldIter dDE dHL) dDE dHL s.pc :=
  have ⟨main, pc, _⟩ := s.moveToIo_main_pc_ctx
  State.blockUpdate_countsOn dDE dHL main pc

theorem State.ldIter_again_countsOn (s : State) : CountsOn s s.moveToIo (s.ldIter dDE dHL).again dDE dHL
    (if s.bc ≠ 1 then s.ctx.first else s.pc) :=
  have ⟨_, _, ctx⟩ := s.moveToIo_main_pc_ctx
  (s.ldIter_countsOn dDE dHL).again ctx

theorem State.lsIter_again_countsOn (s : State) : CountsOn s s.moveFromIo (s.lsIter dDE dHL).again dDE dHL
    (if s.bc ≠ 1 then s.ctx.first else s.pc) :=
  have ⟨main, pc, ctx⟩ := s.moveFromIo_main_pc_ctx
  (State.blockUpdate_countsOn dDE dHL main pc).again ctx

end Blocks

/-- Settles O53: a data write of the byte at HL, then the counters, and for a repeating form the way back. -/
theorem blockMovesOut : Obligations.BlockMovesOut := by
  unfold Obligations.BlockMovesOut
  intro s i dDE dHL rep source
  have ⟨t, run, counted⟩ : ∃ t, exec i s = .next t ∧
      CountsOn s s.moveToIo t dDE dHL (if rep = true ∧ s.bc ≠ 1 then s.ctx.first else s.pc) := by
    cases rep with
    | false =>
      have run : exec i s = .next (s.ldIter dDE dHL) := by
        simp only [List.mem_cons, Prod.mk.injEq, List.not_mem_nil, or_false, Bool.false_eq_true, and_false] at source
        obtain ⟨rfl, rfl, rfl, -⟩ | ⟨rfl, rfl, rfl, -⟩ := source <;> rfl
      simp only [Bool.false_eq_true, false_and, if_false]
      exact ⟨_, run, s.ldIter_countsOn dDE dHL⟩
    | true =>
      have run : exec i s = .next (s.ldIter dDE dHL).again := by
        simp only [List.mem_cons, Prod.mk.injEq, List.not_mem_nil, or_false, Bool.true_eq_false, and_false,
          false_or] at source
        obtain ⟨rfl, rfl, rfl, -⟩ | ⟨rfl, rfl, rfl, -⟩ | ⟨rfl, rfl, rfl, -⟩ | ⟨rfl, rfl, rfl, -⟩ := source <;> rfl
      simp only [true_and]
      exact ⟨_, run, s.ldIter_again_countsOn dDE dHL⟩
  obtain ⟨rest, de, hl, bc, a, flags, pc⟩ := counted
  exact ⟨_, t, run, s.dataWrite8_stores _ _, rest, de, hl, bc, a, flags, pc⟩

/-- Settles O54: a data read at HL and a write of the byte to memory, then the counters and the way back. -/
theorem blockMovesIn : Obligations.BlockMovesIn := by
  unfold Obligations.BlockMovesIn
  intro s i dDE dHL source
  have run : exec i s = .next (s.lsIter dDE dHL).again := by
    simp only [List.mem_cons, Prod.mk.injEq, List.not_mem_nil, or_false] at source
    obtain ⟨rfl, rfl, rfl⟩ | ⟨rfl, rfl, rfl⟩ | ⟨rfl, rfl, rfl⟩ | ⟨rfl, rfl, rfl⟩ := source <;> rfl
  obtain ⟨rest, de, hl, bc, a, flags, pc⟩ := s.lsIter_again_countsOn dDE dHL
  exact ⟨_, _, _, _, run, s.dataRead8_reads s.hl, State.memWrite8_stores _ s.de _, rest, de, hl, bc, a, flags, pc⟩

/-! ## UMA and UMS (48_block.md R551, R552) -/

section MultiplyAccumulate

variable (s : State) (v : BitVec 25)

/-- The parts of the 25 bits as numbers. -/
theorem macParts_toNat : ((v.extractLsb' 0 8).toNat : Int) = (v.toNat : Int) % 256 ∧
    ((v.extractLsb' 8 16).toNat : Int) = (v.toNat : Int) / 256 % 65536 ∧
    (v.msb = true ↔ 2 ^ 24 ≤ (v.toNat : Int)) := by
  refine ⟨?low, ?mid, ?top⟩
  case low => simp
  case mid => simp [Nat.shiftRight_eq_div_pow]
  case top =>
    rw [BitVec.msb_eq_decide, decide_eq_true_iff]
    norm_cast

/-- What UMA and UMS leave, from the 25 bits that they compute. -/
structure Accumulated (s m t : State) (v : BitVec 25) : Prop where
  de' : t.alt.pair .de = v.extractLsb' 8 16
  carry : t.main.f.c = v.msb
  rest : t = { m with main := t.main, alt := t.alt, ix := s.ix + 1, iy := s.iy + 1, pc := t.pc, draws := t.draws }
  hl : t.hl = s.hl + 1
  bc : t.bc = s.bc - 1
  de : t.de = s.de
  a : t.main.a = s.main.a
  flags : FlagsKept t.main.f s.main.f
  altFlags : t.alt.f = s.alt.f
  altRegs : ∀ q, q ∉ [Reg8.d, .e] → t.alt.get q = s.alt.get q

theorem State.macIter_accumulated :
    Accumulated s (s.memWrite8 s.hl (v.extractLsb' 0 8)) (s.macIter v) v where
  de' := mkWord_hi_lo _
  carry := rfl
  rest := rfl
  hl := mkWord_hi_lo _
  bc := mkWord_hi_lo _
  de := rfl
  a := rfl
  flags := ⟨rfl, rfl, rfl⟩
  altFlags := rfl
  altRegs _ hq := s.alt.get_setPair_ne (p := .de) hq _

theorem Accumulated.again {s m t : State} {v : BitVec 25} (h : Accumulated s m t v) : Accumulated s m t.again v := by
  obtain ⟨de', carry, rest, hl, bc, de, a, flags, altFlags, altRegs⟩ := h
  rw [t.again_rest]
  exact ⟨de', carry, by rw [rest], hl, bc, de, a, flags, altFlags, altRegs⟩

end MultiplyAccumulate

/-- Settles O55: both are `State.macIter` of their 25 bits, which are the remainder of the sum or difference. -/
theorem multiplyAccumulate : Obligations.MultiplyAccumulate := by
  unfold Obligations.MultiplyAccumulate
  intro s i v source
  have ⟨w, run, value⟩ : ∃ w : BitVec 25, exec i s = .next (s.macIter w).again ∧ (w.toNat : Int) = v := by
    obtain ⟨rfl, rfl⟩ | ⟨rfl, rfl⟩ := source
    · refine ⟨_, rfl, ?_⟩
      rw [BitVec.toNat_ofNat, State.macTerm]
      push_cast
      rfl
    · refine ⟨_, rfl, ?_⟩
      rw [ofInt_toNat_cast, State.macTerm]
      push_cast
      rfl
  subst value
  obtain ⟨low, mid, top⟩ := macParts_toNat w
  have pc := s.again_pc (s.macIter_accumulated w).bc rfl rfl
  obtain ⟨de', carry, rest, hl, bc, de, a, flags, altFlags, altRegs⟩ := (s.macIter_accumulated w).again
  exact ⟨_, _, _, run, s.memWrite8_stores s.hl _, low, by rw [de', mid], by rw [carry, top], rest, hl, bc, de, a, flags,
    altFlags, altRegs, pc⟩

/-! ## Stacks of four 2-bit fields: IP and SU (10_state.md R44, R45; 60_exceptions.md R623, R642) -/

section Fields

variable (r : Byte) (p : BitVec 2)

theorem pushField_toNat : (pushField r p).toNat = r.toNat * 4 % 256 + p.toNat := by
  have low : r.toNat % 64 * 4 = r.toNat * 4 % 256 := by omega
  rw [pushField, BitVec.toNat_append, ← Nat.shiftLeft_add_eq_or_of_lt p.isLt, Nat.shiftLeft_eq,
    BitVec.extractLsb'_toNat, Nat.shiftRight_zero]
  exact congrArg (· + p.toNat) low

theorem rotateField_toNat : (rotateField r).toNat = r.toNat / 4 + 64 * (r.toNat % 4) := by
  have high : r.toNat / 4 % 64 = r.toNat / 4 := by have := r.isLt; omega
  rw [rotateField, BitVec.toNat_append, ← Nat.shiftLeft_add_eq_or_of_lt (BitVec.isLt _), Nat.shiftLeft_eq,
    BitVec.extractLsb'_toNat, BitVec.extractLsb'_toNat, Nat.shiftRight_zero, Nat.shiftRight_eq_div_pow]
  omega

theorem currentField_toNat : (currentField r).toNat = r.toNat % 4 := by
  rw [currentField, BitVec.extractLsb'_toNat, Nat.shiftRight_zero]

/-- What was pushed comes out, the three newer fields stand where they stood. -/
theorem rotateField_pushField_mod : (rotateField (pushField r p)).toNat % 64 = r.toNat % 64 := by
  have := p.isLt
  have older : (r.toNat * 4 % 256 + p.toNat) / 4 = r.toNat % 64 := by omega
  rw [rotateField_toNat, pushField_toNat, older, Nat.add_mul_mod_self_left, Nat.mod_mod]

end Fields

/-! ## NOP, IPSET, IPRES and RETI (49_prefix_system.md R570, R574-R579) -/

/-- Settles O56: IPSET pushes a field, IPRES rotates, RETI takes IP and PC from the stack. -/
theorem priorityInstructions : Obligations.PriorityInstructions := by
  unfold Obligations.PriorityInstructions
  intro s
  refine ⟨rfl, fun i p source => ?ipset, ⟨_, rfl, rotateField_toNat s.ip⟩, ⟨_, rfl, memRead16_toNat s (s.sp + 1)⟩⟩
  case ipset =>
    have ⟨f, run, value⟩ : ∃ f : BitVec 2, exec i s = ipset f s ∧ f.toNat = p := by
      simp only [List.mem_cons, Prod.mk.injEq, List.not_mem_nil, or_false] at source
      obtain ⟨rfl, rfl⟩ | ⟨rfl, rfl⟩ | ⟨rfl, rfl⟩ | ⟨rfl, rfl⟩ := source <;> exact ⟨_, rfl, rfl⟩
    exact ⟨_, run, value ▸ pushField_toNat s.ip f⟩

/-! ## IDET, RDMODE, SETUSR and SURES (49_prefix_system.md R580-R583) -/

section Idet

variable {s : State}

theorem exec_idet_of_altd (h : s.ctx.altd = true) : exec .idet s = .next (s.dst8 .e s.main.e) := if_pos h

theorem exec_idet_of_not_altd (h : s.ctx.altd = false) : exec .idet s =
    .next { s with smvPending := s.smvPending || (s.platform.edmrEnabled && s.su.getLsbD 0) } := if_neg (by simp [h])

end Idet

/-- Settles O57: IDET under ALTD is the write of E', RDMODE a flag write of main C, SETUSR and SURES move the fields
of SU. -/
theorem modeInstructions : Obligations.ModeInstructions := by
  unfold Obligations.ModeInstructions
  intro s
  refine ⟨fun altd => ?loadE, fun noAltd => ?request, ?rdmode, ⟨_, rfl, pushField_toNat s.su 1⟩,
    ⟨_, rfl, rotateField_toNat s.su⟩⟩
  case loadE =>
    have taken := s.dst8_get .e s.main.e
    rw [altd] at taken
    exact ⟨_, exec_idet_of_altd altd, taken, s.dst8_writes .e s.main.e⟩
  case request =>
    have user : decide (s.su.toNat % 2 = 1) = s.su.getLsbD 0 :=
      Bool.eq_iff_iff.mpr (decide_eq_true_iff.trans (bit0_iff_odd s.su).symm)
    rw [user]
    exact exec_idet_of_not_altd noAltd
  case rdmode => exact ⟨_, rfl, bit0_iff_odd s.su, ⟨rfl, rfl, rfl⟩, s.main.get_updFlags _ _, rfl⟩

/-! ## Which request is accepted (60_exceptions.md R622, R631, R632, R640, R641) -/

section Acceptance

theorem firstHighest_eq_none_iff {l : List (IntRequest × Bool)} : firstHighest l = none ↔ l = [] := by
  cases l with
  | nil => exact iff_of_true rfl rfl
  | cons r t =>
    refine iff_of_false ?_ (List.cons_ne_nil r t)
    unfold firstHighest
    split
    · exact Option.some_ne_none r
    · split <;> exact Option.some_ne_none _

/-- `q` stands in the list with nothing as high before it and nothing higher behind it. -/
def FirstHighestIn (q : IntRequest × Bool) (l : List (IntRequest × Bool)) : Prop :=
  ∃ before after, l = before ++ q :: after ∧ (∀ r ∈ before, r.1.prio.toNat < q.1.prio.toNat) ∧
    ∀ r ∈ after, r.1.prio.toNat ≤ q.1.prio.toNat

/-- Nothing in the list is higher than its first highest. -/
theorem FirstHighestIn.le {q r : IntRequest × Bool} {l : List (IntRequest × Bool)} (h : FirstHighestIn q l)
    (hr : r ∈ l) : r.1.prio.toNat ≤ q.1.prio.toNat := by
  obtain ⟨before, after, rfl, lower, notHigher⟩ := h
  rcases List.mem_append.mp hr with hr | hr
  · exact (lower r hr).le
  · rcases List.mem_cons.mp hr with rfl | hr
    · exact le_rfl
    · exact notHigher r hr

theorem firstHighest_eq_some {q : IntRequest × Bool} {l : List (IntRequest × Bool)}
    (h : firstHighest l = some q) : FirstHighestIn q l := by
  induction l generalizing q with
  | nil => cases h
  | cons r t ih =>
    unfold firstHighest at h
    split at h
    next none =>
      obtain rfl := Option.some.inj h
      obtain rfl := firstHighest_eq_none_iff.mp none
      exact ⟨[], [], rfl, by simp, by simp⟩
    next q' some =>
      have found := ih some
      split at h
      next le =>
        obtain rfl := Option.some.inj h
        exact ⟨[], t, rfl, by simp, fun x hx => (found.le hx).trans le⟩
      next lt =>
        obtain rfl := Option.some.inj h
        obtain ⟨before, after, split, lower, notHigher⟩ := found
        refine ⟨r :: before, after, by rw [split]; rfl, fun x hx => ?_, notHigher⟩
        rcases List.mem_cons.mp hx with rfl | hx
        · exact Nat.lt_of_not_le lt
        · exact lower x hx

/-- The first highest of what exceeds a bound is the first highest of all. -/
theorem FirstHighestIn.of_filter {q : IntRequest × Bool} {l : List (IntRequest × Bool)}
    {p : IntRequest × Bool → Bool} {n : Nat} (hp : ∀ r, p r = true ↔ n < r.1.prio.toNat)
    (h : FirstHighestIn q (l.filter p)) : n < q.1.prio.toNat ∧ FirstHighestIn q l := by
  have below {r : IntRequest × Bool} (hr : ¬ p r = true) (hq : n < q.1.prio.toNat) :
      r.1.prio.toNat < q.1.prio.toNat := by
    rw [hp] at hr
    omega
  obtain ⟨before, after, split, lower, notHigher⟩ := h
  obtain ⟨front, rest, rfl, rfl, hrest⟩ := List.filter_eq_append_iff.mp split
  obtain ⟨mid, back, rfl, hmid, hq, rfl⟩ := List.filter_eq_cons_iff.mp hrest
  have high := (hp q).mp hq
  refine ⟨high, front ++ mid, back, (List.append_assoc _ _ _).symm, fun r hr => ?before, fun r hr => ?after⟩
  case before =>
    rcases List.mem_append.mp hr with hr | hr
    · by_cases hpr : p r = true
      · exact lower r (List.mem_filter.mpr ⟨hr, hpr⟩)
      · exact below hpr high
    · exact below (hmid r hr) high
  case after =>
    by_cases hpr : p r = true
    · exact notHigher r (List.mem_filter.mpr ⟨hr, hpr⟩)
    · exact (below hpr high).le

variable (s : State) (ps : List IntRequest)

theorem State.eligible_iff (r : IntRequest) : s.eligible r = true ↔ s.ip.toNat % 4 < r.prio.toNat := by
  rw [State.eligible, decide_eq_true_iff, currentField_toNat]

variable {s ps}

theorem State.accepted_of_deferIrq (h : s.deferIrq = true) : s.accepted ps = none := if_pos h

theorem State.accepted_of_not_deferIrq (h : s.deferIrq = false) :
    s.accepted ps = firstHighest ((s.candidates ps).filter fun r => s.eligible r.1) := if_neg (by simp [h])

theorem State.candidates_of_pending {v : IntRequest} (hp : s.smvPending = true) (hv : s.smv = some v) :
    s.candidates ps = ps.map (fun r => (r, false)) ++ [(v, true)] := by
  rw [State.candidates, hp, hv]
  rfl

theorem State.candidates_of_not_delivered (h : s.smvPending = false ∨ s.smv = none) :
    s.candidates ps = ps.map (fun r => (r, false)) := by
  obtain h | h := h <;> simp [State.candidates, h]

end Acceptance

/-- Settles O58: acceptance is the first highest of the candidates above the processor's priority. -/
theorem interruptAcceptance : Obligations.InterruptAcceptance := by
  unfold Obligations.InterruptAcceptance
  intro s ps
  refine ⟨?none, fun q hq => ?some, fun v => State.candidates_of_pending, State.candidates_of_not_delivered⟩
  case none =>
    cases hd : s.deferIrq with
    | true => exact iff_of_true (State.accepted_of_deferIrq hd) (.inl rfl)
    | false =>
      rw [State.accepted_of_not_deferIrq hd, firstHighest_eq_none_iff, List.filter_eq_nil_iff]
      simp only [s.eligible_iff, not_lt, Bool.false_eq_true, false_or]
  case some =>
    cases hd : s.deferIrq with
    | true => exact nomatch (State.accepted_of_deferIrq hd).symm.trans hq
    | false =>
      rw [State.accepted_of_not_deferIrq hd] at hq
      exact (firstHighest_eq_some hq).of_filter fun r => s.eligible_iff r.1

/-! ## Entering an interrupt and returning (60_exceptions.md R633, R634, R640) -/

section Entry

variable {s : State} {r : IntRequest} {b : Bool}

theorem State.vector_toNat (s : State) (r : IntRequest) : (s.vector r).toNat =
    256 * (match r.cls with | .internal => s.iir | .external => s.eir).toNat + r.offset.toNat := by
  unfold State.vector
  cases r.cls <;> exact (mkWord_toNat _ _).trans (Nat.add_comm _ _)

theorem State.runWith_of_accepted (h : s.accepted s.presented = some (r, b)) (f : UserModeRestriction)
    (enter : EntrySequence) : s.runWith f enter = .next (s.nextBoundary.takeInterruptBy enter r b) := by
  unfold State.runWith
  rw [h]

theorem step_of_accepted (h : s.accepted s.presented = some (r, b)) :
    step s = .next (s.nextBoundary.takeInterrupt r b) := State.runWith_of_accepted h _ _

/-- The state after IPRES. -/
def State.ipres (s : State) : State := { s with ip := rotateField s.ip }.privileged

theorem exec_ipres (s : State) : exec .ipres s = .next s.ipres := rfl

theorem State.ipres_translate (s : State) (a : Word) : s.ipres.translate a = s.translate a :=
  State.translate_congr rfl rfl rfl rfl rfl a

/-- IPRES leaves the stack. -/
theorem PushedWord.ipres {t : State} {v : Word} (h : PushedWord s t v) : PushedWord s t.ipres v :=
  ⟨h.high, h.low, h.sp, h.mem⟩

end Entry

/-- Settles O59: the entry is the platform's sequence, by the default a push of PC, behind the schedule's move. -/
theorem interruptEntry : Obligations.InterruptEntry := by
  unfold Obligations.InterruptEntry
  intro restricted enter s r b accepted
  have pushed := s.nextBoundary.takeInterrupt_pushes r b
  exact ⟨State.runWith_of_accepted accepted restricted enter, _, step_of_accepted accepted,
    ⟨pushed.high, pushed.low, pushed.sp, pushed.mem⟩, pushField_toNat s.ip r.prio, s.nextBoundary.vector_toNat r,
    s.nextBoundary.takeInterrupt_rest r b⟩

/-- Settles O60: RET pops the word that the entry pushed, IPRES rotates out the priority that it pushed. -/
theorem ipresRetUndoesEntry : Obligations.IpresRetUndoesEntry := by
  unfold Obligations.IpresRetUndoesEntry
  intro s r b
  have pushed := (s.takeInterrupt_pushes r b).ipres
  have mapped (a : Word) := ((s.takeInterrupt r b).ipres_translate a).trans (s.takeInterrupt_translate r b a)
  refine ⟨_, _, exec_ipres _, rfl, exec_ret _, fun apart => pushed.ret_pc apart mapped, pushed.ret_sp,
    rotateField_pushField_mod s.ip r.prio, ?_⟩
  simp [State.ret_eq, State.ipres]

/-! ## The Rabbit 2000 defect (70_reset_and_hazards.md R690) -/

section Defect

variable {s : State} {i : Instr}

/-- On a Rabbit 2000, without ALTD, IOI and IOE, behind an instruction that had IOI or IOE, one of the twelve is hit. -/
theorem State.hitsIoBug_of_r2000 (hv : s.variant = .r2000) (hl : s.lastHadIoPrefix = true) (ha : s.ctx.altd = false)
    (hio : s.ctx.iop = none) (hi : i.isOneByteHL = true) : s.hitsIoBug i = true := by
  unfold State.hitsIoBug
  rw [hv, hl, ha, hio, hi]
  rfl

theorem State.hitsIoBug_of_ne_r2000 (hv : s.variant ≠ .r2000) (i : Instr) : s.hitsIoBug i = false := by
  unfold State.hitsIoBug
  simp [hv]

theorem runInstr_of_hitsIoBug (h : s.hitsIoBug i = true) (f : UserModeRestriction) :
    runInstr f i s = .refused .r2000IOPrefixBug := if_pos h

end Defect

/-- Settles O8: on a Rabbit 2000 the check before the instruction stops it, on the other chips it never does. -/
theorem rabbit2000DefectStops : Obligations.Rabbit2000DefectStops := by
  unfold Obligations.Rabbit2000DefectStops
  intro s i rest hn hd hp hi hl
  refine ⟨fun hv => ?stops, fun hv => ?runs⟩
  case stops =>
    have hit : (s.behind s.firstCtx 0).hitsIoBug i = true := State.hitsIoBug_of_r2000 hv hl rfl rfl hi
    rw [← s.behind_zero_fetchBytes s.firstCtx] at hd
    calc step s
        = runUnit s.restriction 2 (s.behind s.firstCtx 0) := State.runWith_of_noInterrupt hn _ _
      _ = runInstr s.restriction i (s.behind s.firstCtx 0) := runUnit_of_isPrefix_false hd hp _ 2
      _ = .refused .r2000IOPrefixBug := runInstr_of_hitsIoBug hit _
  case runs =>
    have ⟨_, run, _⟩ := stepRunsDecodedInstruction s.restriction enterInterrupt s i rest hn hd hp
      (State.hitsIoBug_of_ne_r2000 (s := s.behind s.firstCtx 0) hv i)
    exact run

/-! ## Reset (70_reset_and_hazards.md R680-R682) -/

/-- Settles O10: reset memory lists no byte, and no instruction has begun. -/
theorem resetMeetsInvariant : Obligations.ResetMeetsInvariant := ⟨⟨List.Pairwise.nil, nofun⟩, rfl⟩

/-- At reset every segment register is 0. -/
theorem State.reset_segment (a : Word) : MmuView.segment ⟨State.reset.xpc, State.reset.su, State.reset.platform,
    State.reset.io⟩ a = 0 := by
  unfold MmuView.segment
  dsimp only
  split
  · rfl
  · split
    · rfl
    · split <;> rfl

theorem State.reset_translate (a : Word) : (State.reset.translate a).toNat = a.toNat := by
  have := a.isLt
  rw [State.translate_default _ rfl, segmentTranslate_toNat, State.reset_segment, show (0 : Byte).toNat = 0 from rfl]
  omega

/-- Settles O21: the values are those of `State.reset`, and the mapping adds segments that are 0. -/
theorem resetValues : Obligations.ResetValues := by
  unfold Obligations.ResetValues
  refine ⟨rfl, rfl, rfl, rfl, rfl, rfl, rfl, rfl, rfl, rfl, rfl, rfl, rfl, fun r => ?registers, rfl, rfl, rfl, rfl, rfl,
    rfl, rfl, rfl, rfl, rfl, rfl, rfl, rfl, rfl, fun _ => rfl, State.reset_translate⟩
  case registers => cases r <;> exact ⟨rfl, rfl⟩

end Sys2Proof.Machine

namespace Sys2Proof

/-! ## Instructions of one encoding -/

/-- The Rabbit 3000A has every instruction but LD E,E. -/
theorem Instr.existsOn_r3000a {i : Instr} (h : i ≠ .ld_E_E) : i.existsOn .r3000a = true := by
  cases i
  case ld_E_E => exact absurd rfl h
  all_goals rfl

/-- On one chip no two instructions have the same bytes. -/
theorem eq_of_encode_eq {v : Variant} {i j : Instr} (hi : i.existsOn v = true) (hj : j.existsOn v = true)
    (h : encode i = encode j) : i = j :=
  congrArg Prod.fst (Except.ok.inj ((decode_of_encode_eq hi h).symm.trans (decode_of_encode_eq hj rfl)))

/-- The privileged instructions of R625, in the order of their bytes in `privilegedCodes`. -/
def privilegedInstrs : List Instr :=
  [.ld_SP_HL, .ld_SP_IX, .ld_SP_IY, .bit_0_atHL, .bit_1_atHL, .bit_2_atHL, .bit_3_atHL, .bit_4_atHL, .bit_5_atHL,
   .bit_6_atHL, .bit_7_atHL, .ipset_0, .ipset_1, .ipset_2, .ipset_3, .ipres, .reti, .pop_IP, .ld_XPC_A, .ld_A_XPC,
   .push_SU, .pop_SU, .setusr, .sures, .rdmode]

theorem encode_privilegedInstrs : privilegedInstrs.map encode = privilegedCodes := rfl

/-- An instruction with the bytes of a privileged one is that one. -/
theorem mem_privilegedInstrs_of_isPrivileged {i : Instr} (h : i.isPrivileged = true) : i ∈ privilegedInstrs := by
  have listed : encode i ∈ privilegedInstrs.map encode := by
    rw [encode_privilegedInstrs]
    exact List.contains_iff_mem.mp h
  obtain ⟨j, hj, same⟩ := List.mem_map.mp listed
  have notLoad : i ≠ .ld_E_E := by
    rintro rfl
    exact nomatch h
  have other : ∀ k ∈ privilegedInstrs, k ≠ .ld_E_E := by decide
  have equal := eq_of_encode_eq (Instr.existsOn_r3000a (other j hj)) (Instr.existsOn_r3000a notLoad) same
  exact equal ▸ hj

end Sys2Proof

namespace Sys2Proof.Machine

/-! ## What defers interrupts (60_exceptions.md R625, R626) -/

/-- A privileged instruction's last act is to defer interrupts. -/
theorem exec_deferIrq_of_privileged (s : State) :
    ∀ i ∈ privilegedInstrs, ∃ t, exec i s = .next t ∧ t.deferIrq = true := by
  simp only [privilegedInstrs, List.forall_mem_cons, List.not_mem_nil, false_imp_iff, implies_true, and_true]
  and_intros
  all_goals exact ⟨_, rfl, rfl⟩

section Data

variable (s : State)

theorem State.dataRead8_deferIrq (a : Word) : (s.dataRead8 a).2.deferIrq = s.deferIrq := by rw [s.dataRead8_rest a]

theorem State.dataRead16_deferIrq (a : Word) : (s.dataRead16 a).2.deferIrq = s.deferIrq := by
  rw [s.dataRead16_rest a]

theorem State.dataWrite8_deferIrq (a : Word) (v : Byte) : (s.dataWrite8 a v).deferIrq = s.deferIrq := by
  rw [s.dataWrite8_rest a v]

theorem State.dataWrite16_deferIrq (a v : Word) : (s.dataWrite16 a v).deferIrq = s.deferIrq := by
  rw [s.dataWrite16_rest a v]

/-- A byte read, changed and stored. -/
theorem State.dataWrite8_dataRead8_deferIrq (a : Word) (v : Byte) :
    ((s.dataRead8 a).2.dataWrite8 a v).deferIrq = s.deferIrq :=
  ((s.dataRead8 a).2.dataWrite8_deferIrq a v).trans (s.dataRead8_deferIrq a)

theorem State.again_deferIrq : s.again.deferIrq = s.deferIrq := by rw [s.again_rest]

theorem State.ldIter_deferIrq (dDE dHL : Word) : (s.ldIter dDE dHL).deferIrq = s.deferIrq :=
  s.dataWrite8_deferIrq s.de (s.memRead8 s.hl)

theorem State.lsIter_deferIrq (dDE dHL : Word) : (s.lsIter dDE dHL).deferIrq = s.deferIrq :=
  s.dataRead8_deferIrq s.hl

theorem aluA_deferIrq (op : AluOp) (x : Byte) : (aluA op x s).deferIrq = s.deferIrq := by cases op <;> rfl

end Data

/-- If this answers a next state, that defers interrupts exactly if `s` does. -/
def AnswersSameDeferral (s : State) (e : Exec) : Prop := ∀ t, e = .next t → t.deferIrq = s.deferIrq

section Answers

variable {s : State}

theorem answersSameDeferral_next {t : State} (h : t.deferIrq = s.deferIrq) : AnswersSameDeferral s (.next t) := by
  rintro _ ⟨⟩
  exact h

theorem answersSameDeferral_refused (r : Refusal) : AnswersSameDeferral s (.refused r) := by
  rintro _ ⟨⟩

theorem dstDd_answersSameDeferral {t : State} (h : t.deferIrq = s.deferIrq) (r : Dd) (v : Word) :
    AnswersSameDeferral s (t.dstDd r v) := by
  cases r with
  | bc | de | hl => exact answersSameDeferral_next h
  | sp =>
    unfold State.dstDd
    dsimp only
    split
    · exact answersSameDeferral_refused _
    · exact answersSameDeferral_next h

theorem ioMark_answersSameDeferral (sp : IoSpace) : AnswersSameDeferral s (ioMark sp s) := by
  unfold ioMark
  split
  · exact answersSameDeferral_next rfl
  · exact answersSameDeferral_refused _

theorem execAltd_answersSameDeferral : AnswersSameDeferral s (execAltd s) := by
  unfold execAltd
  split
  · exact answersSameDeferral_refused _
  · exact answersSameDeferral_next rfl

theorem execIdet_answersSameDeferral : AnswersSameDeferral s (execIdet s) := by
  unfold execIdet
  split <;> exact answersSameDeferral_next rfl

theorem execEx_DE_HL_answersSameDeferral : AnswersSameDeferral s (execEx_DE_HL s) := by
  unfold execEx_DE_HL
  split <;> exact answersSameDeferral_next rfl

theorem execEx_DE'_HL_answersSameDeferral : AnswersSameDeferral s (execEx_DE'_HL s) := by
  unfold execEx_DE'_HL
  split <;> exact answersSameDeferral_next rfl

/-- Every other instruction: the privileged ones first, then those that access data, then those that leave the
deferral alone as they stand. -/
theorem exec_answersSameDeferral {i : Instr} (hi : i.isPrivileged = false) : AnswersSameDeferral s (exec i s) := by
  cases i using Instr.form_cases
  all_goals try simp only [exec_ldRG, exec_ldRN, exec_ldRAtHL, exec_ldRAtIdx, exec_ldAtHLR, exec_ldAtIdxR,
    exec_ldAtIdxN, exec_ldDdMn, exec_ldIdxMn, exec_ldDdAtMn, exec_ldIdxAtMn, exec_ldAtMnSs, exec_ldAtMnIdx,
    exec_ldHLAtIdx, exec_ldAtIdxHL, exec_ldIdxAtSP, exec_ldAtSPIdx, exec_ldHLIdx, exec_ldIdxHL, exec_ldSPIdx,
    exec_ldAltBC, exec_ldAltDE, exec_ldpAtIdxHL, exec_ldpAtMnIdx, exec_ldpHLAtIdx, exec_ldpIdxAtMn, exec_pushZz,
    exec_pushIdx, exec_popZz, exec_popIdx, exec_exAtSPIdx, exec_aluR, exec_aluN, exec_aluAtHL, exec_aluAtIdx,
    exec_incR, exec_incAtIdx, exec_decR, exec_decAtIdx, exec_addHLSs, exec_addIdx, exec_adcHLSs, exec_sbcHLSs,
    exec_andIdxDE, exec_orIdxDE, exec_boolIdx, exec_incSs, exec_incIdx, exec_decSs, exec_decIdx, exec_rotR,
    exec_rotAtHL, exec_rotAtIdx, exec_rrIdx, exec_bitR, exec_bitAtHL, exec_bitAtIdx, exec_resR, exec_resAtHL,
    exec_resAtIdx, exec_setR, exec_setAtHL, exec_setAtIdx, exec_jpF, exec_jpIdx, exec_jrCc, exec_retF, exec_rst]
  case bitAtHL b => cases b <;> exact nomatch hi
  case ldSPIdx x => cases x <;> exact nomatch hi
  case ld_SP_HL | ipset_0 | ipset_1 | ipset_2 | ipset_3 | ipres | reti | pop_IP | ld_XPC_A | ld_A_XPC | push_SU |
      pop_SU | setusr | sures | rdmode => exact nomatch hi
  case altd => exact execAltd_answersSameDeferral
  case ioi | ioe => exact ioMark_answersSameDeferral _
  case idet => exact execIdet_answersSameDeferral
  case ex_DE_HL => exact execEx_DE_HL_answersSameDeferral
  case ex_DE'_HL => exact execEx_DE'_HL_answersSameDeferral
  case ldDdMn | incSs | decSs => exact dstDd_answersSameDeferral rfl _ _
  case ldDdAtMn => exact dstDd_answersSameDeferral (s.dataRead16_deferIrq _) _ _
  case jpF | jrCc | retF | djnz_e => exact answersSameDeferral_next (by split <;> rfl)
  case aluR | aluN => exact answersSameDeferral_next (aluA_deferIrq s _ _)
  case aluAtHL | aluAtIdx => exact answersSameDeferral_next ((aluA_deferIrq _ _ _).trans (s.dataRead8_deferIrq _))
  case ldRAtHL | ldRAtIdx | ld_A_atBC | ld_A_atDE | ld_A_atMn | bitAtIdx =>
    exact answersSameDeferral_next (s.dataRead8_deferIrq _)
  case ldIdxAtMn | ldHLAtIdx | ld_HL_atMn | ld_HL_atHLd => exact answersSameDeferral_next (s.dataRead16_deferIrq _)
  case ldAtHLR | ldAtIdxR | ldAtIdxN | ld_atBC_A | ld_atDE_A | ld_atMn_A | ld_atHL_n =>
    exact answersSameDeferral_next (s.dataWrite8_deferIrq _ _)
  case ldAtMnSs | ldAtMnIdx | ldAtIdxHL | ld_atMn_HL | ld_atHLd_HL =>
    exact answersSameDeferral_next (s.dataWrite16_deferIrq _ _)
  case incAtIdx | decAtIdx | inc_atHL | dec_atHL | rotAtHL | rotAtIdx | resAtHL | resAtIdx | setAtHL | setAtIdx =>
    exact answersSameDeferral_next (s.dataWrite8_dataRead8_deferIrq _ _)
  case ldi | ldd => exact answersSameDeferral_next (s.ldIter_deferIrq _ _)
  case ldir | lddr | ldisr | lddsr =>
    exact answersSameDeferral_next ((State.again_deferIrq _).trans (s.ldIter_deferIrq _ _))
  case lsir | lsdr | lsidr | lsddr =>
    exact answersSameDeferral_next ((State.again_deferIrq _).trans (s.lsIter_deferIrq _ _))
  case uma | ums => exact answersSameDeferral_next (State.again_deferIrq _)
  all_goals exact answersSameDeferral_next rfl

end Answers

/-- Settles O12: the listed instructions end by deferring, and no other writes the deferral. -/
theorem privilegedInstructionsDefer : Obligations.PrivilegedInstructionsDefer := by
  unfold Obligations.PrivilegedInstructionsDefer
  intro i s t run
  cases hi : i.isPrivileged with
  | true =>
    obtain ⟨u, run', deferred⟩ := exec_deferIrq_of_privileged s i (mem_privilegedInstrs_of_isPrivileged hi)
    obtain rfl : u = t := Host.Outcome.next.inj (run'.symm.trans run)
    rw [deferred, Bool.or_true]
  | false => rw [exec_answersSameDeferral hi t run, Bool.or_false]

end Sys2Proof.Machine
